-- ==== Sys2Proof/Word.lean ====
section
/-! DEFINITION. The machine's two value widths (spec R6): the 8-bit data word and the 16-bit address. -/

namespace Sys2Proof

/-- The data word: 8 bits (R6). -/
abbrev Byte := BitVec 8

/-- An address, and the value of a register pair, SP or PC: 16 bits (R6). -/
abbrev Word := BitVec 16

end Sys2Proof
end

