-- ==== Sys2Proof/Machine/State.lean ====
section
/-! DEFINITION. The state of the machine as plain data (spec 10_state.md), the reasons a step can stop, and the state after reset
(70_reset_and_hazards.md R450). -/

namespace Sys2Proof.Machine

/-! ### Memory -/

/-- One storage of R32 (or the framebuffer of R36), by offset from its start: a list of cells in ONE canonical form, offsets
strictly rising and no cell holding 0, since an unlisted offset reads 0 (DESIGN CHOICE, unsafe: notes/assumptions/2.md). Its operations
are in Sys2Proof/Machine/Memory.lean. -/
abbrev Memory := List Host.Cell

/-! ### The register file (R20) -/

/-- The four meaningful bits of F (R21): Z is F[7], N is F[6], H is F[5], C is F[4]. F[3:0] is hardwired to 0 and so is not stored. -/
structure Flags where
  z : Bool
  n : Bool
  h : Bool
  c : Bool
  deriving DecidableEq, Repr

/-- The register file (R20): A, F, B, C, D, E, H, L, SP, PC. The pairs AF, BC, DE and HL are views (R22). -/
structure Regs where
  a : BitVec 8
  f : Flags
  b : BitVec 8
  c : BitVec 8
  d : BitVec 8
  e : BitVec 8
  h : BitVec 8
  l : BitVec 8
  sp : BitVec 16
  pc : BitVec 16
  deriving DecidableEq, Repr

/-! ### Fatal conditions (R31, R390, R391) -/

/-- The kinds of Fatal condition (R391). -/
inductive FatalKind where
  | stop
  | unassigned
  deriving DecidableEq, Repr

/-- The record a Fatal condition leaves (R390): its kind, the opcode and the address of the opcode. -/
structure FatalRecord where
  kind : FatalKind
  opcode : BitVec 8
  pc : BitVec 16
  deriving DecidableEq, Repr

/-! ### The cartridge (R32, R34, R37, R46) -/

/-- The registers of the MBC1 controller (R34, R46). They hold the written bits, not the reduced bank (R89). -/
structure Mbc1 where
  ramEnable : Bool
  bank1 : BitVec 5
  bank2 : BitVec 2
  mode : BitVec 1
  deriving DecidableEq, Repr

/-- The registers of the MBC3 controller (R34, R46). -/
structure Mbc3 where
  ramEnable : Bool
  romBank : BitVec 7
  ramBank : BitVec 8
  deriving DecidableEq, Repr

/-- The bank controller and its registers (R34); the direct controller has none. -/
inductive Controller where
  | direct
  | mbc1 (regs : Mbc1)
  | mbc3 (regs : Mbc3)
  deriving DecidableEq, Repr

/-- The cartridge: its controller, its geometry (R37), its ROM image and its external RAM (R32). -/
structure Cart where
  controller : Controller
  /-- The number of 16 KiB ROM banks. -/
  romBanks : Nat
  /-- The size of the external RAM in bytes. -/
  ramSize : Nat
  /-- The number of 8 KiB external RAM banks. -/
  ramBanks : Nat
  rom : Memory
  eram : Memory
  deriving DecidableEq, Repr

/-! ### The devices (R35, R36, R39) -/

/-- The timer and divider (R35): the visible registers and the two cycle accumulators. -/
structure Timer where
  div : BitVec 8
  tima : BitVec 8
  tma : BitVec 8
  tac : BitVec 8
  divAcc : Nat
  timaAcc : Nat
  deriving DecidableEq, Repr

/-- The modes of the pixel pipeline (R36). -/
inductive PpuMode where
  | oamScan
  | drawing
  | hblank
  | vblank
  deriving DecidableEq, Repr

/-- The pixel pipeline (R36) and its registers (R45). -/
structure Ppu where
  mode : PpuMode
  /-- LY, the scanline counter. -/
  ly : BitVec 8
  /-- `ppu_clock`, the cycles spent in the current mode. -/
  clock : Nat
  /-- `lyc_eq`, the latched LY coincidence. -/
  lycEq : Bool
  /-- `ppu_off`, set while the display is disabled. -/
  off : Bool
  lcdc : BitVec 8
  /-- The stored bits 7..3 of STAT; bits 2..0 are computed. -/
  stat : BitVec 5
  scy : BitVec 8
  scx : BitVec 8
  lyc : BitVec 8
  bgp : BitVec 8
  obp0 : BitVec 8
  obp1 : BitVec 8
  wy : BitVec 8
  wx : BitVec 8
  /-- 160 x 144 pixels of 4 bytes (R6): byte k of the pixel at column x of line y is at offset (y * 160 + x) * 4 + k (R420). -/
  framebuffer : Memory
  deriving DecidableEq, Repr

/-- The serial port (R39): SB, SC and the bytes emitted so far, oldest first. -/
structure Serial where
  sb : BitVec 8
  sc : BitVec 8
  out : List (BitVec 8)
  deriving DecidableEq, Repr

/-! ### The state -/

/-- The state of the machine: every piece of state of spec 10_state.md, and at the end the model's own fields. -/
structure State where
  /-- The register file (R20). -/
  regs : Regs
  /-- The interrupts master-enabled flag (R28). -/
  ime : Bool
  /-- The delayed-enable countdown (R29); its range 0..2 is part of `State.Inv` (DEDUCED, safe: notes/assumptions/16.md). -/
  eiDelay : Nat
  /-- Set by HALT, cleared by dispatch and by the HALT wake (R30). -/
  halted : Bool
  /-- The Fatal record, if a Fatal condition was raised (R31). -/
  fatal : Option FatalRecord
  /-- IF, 0xFF0F: the interrupt requests (R45, R361). -/
  intFlag : BitVec 8
  /-- IE, 0xFFFF: the interrupt enables (R45, R361). -/
  intEnable : BitVec 8
  /-- The boot overlay is in place (R33). -/
  bootActive : Bool
  /-- BOOT_ROM (R32). -/
  boot : Memory
  /-- The cartridge and its bank controller (R32, R34, R37). -/
  cart : Cart
  /-- Video RAM (R32). -/
  vram : Memory
  /-- Work RAM (R32). -/
  wram : Memory
  /-- Object memory (R32). -/
  oam : Memory
  /-- The cells of 0xFF00-0xFF7F that are plain storage (R44); the registers of R45 have fields of their own (DEDUCED, safe:
  notes/assumptions/12.md). -/
  io : Memory
  /-- High RAM (R32). -/
  hram : Memory
  /-- The timer and divider (R35). -/
  timer : Timer
  /-- The pixel pipeline (R36). -/
  ppu : Ppu
  /-- The serial port (R39). -/
  serial : Serial
  /-- `joyp_sel`, bits 5..4 of 0xFF00 (R38). -/
  joypSel : BitVec 2
  /-- The DMA register, 0xFF46 (R45). -/
  dma : BitVec 8
  /-- JOYP_INPUT of the current step (R38, R351). It is the host's, not core state: the next step takes the next byte of
  `joypQueue`, if there is one (DESIGN CHOICE, unsafe: notes/assumptions/4.md). -/
  joypInput : BitVec 8
  /-- The JOYP_INPUT bytes the host supplies for the coming steps, the next one first (R351, R470). The model's own field
  (DESIGN CHOICE, unsafe: notes/assumptions/4.md). -/
  joypQueue : List (BitVec 8)
  /-- The cycles of the last step, reported to the host (R350, R470). The model's own field (DESIGN CHOICE, safe:
  notes/assumptions/5.md). -/
  cycles : Nat
  /-- How many draws of R77 and R80 were taken so far. The model's own field (DESIGN CHOICE, safe:
  notes/assumptions/1.md). -/
  draws : Nat
  deriving DecidableEq, Repr

/-! ### How a step can stop -/

/-- Why the machine stops. -/
inductive Fault where
  /-- Raised by `step` on a state whose `fatal` is set: no step is enabled there (R390). Safe: the spec gives such a state no
  successor (DEDUCED: notes/assumptions/6.md). -/
  | fatalState (record : FatalRecord)
  deriving DecidableEq, Repr

/-- Why an instruction has no meaning. -/
inductive Refusal where
  /-- Raised by `exec` alone, for an instruction that the model does not cover. Safe: nothing is claimed about it. No arm of
  `exec` is of this kind. -/
  | notModelled (mnemonic : String)
  deriving DecidableEq, Repr

/-- The outcome of an instruction, or of a step. -/
abbrev Result := Host.Outcome State Fault Refusal

/-! ### Reset (R450) -/

/-- INIT_MEM (R7): the contents at load of video RAM, work RAM, object memory, high RAM and external RAM. -/
structure InitMem where
  vram : Memory
  wram : Memory
  oam : Memory
  hram : Memory
  eram : Memory
  deriving DecidableEq, Repr

/-- The state R450 gives a machine whose cartridge, controller and geometry are `cart` (its `eram` is taken from `init`), whose boot
program is `boot`, and whose header checksum byte CART_IMAGE[0x014D] is `checksum`: F.H and F.C are set when it is not 0 (R452). -/
def State.afterLoad (cart : Cart) (boot : Memory) (checksum : BitVec 8) (init : InitMem) : State where
  regs :=
    { a := 0, b := 0, c := 0, d := 0, e := 0, h := 0, l := 0, sp := 0, pc := 0
      f := { z := false, n := false, h := checksum != 0, c := checksum != 0 } }
  ime := false
  eiDelay := 0
  halted := false
  fatal := none
  intFlag := 0
  intEnable := 0
  bootActive := true
  boot := boot
  cart := { cart with eram := init.eram }
  vram := init.vram
  wram := init.wram
  oam := init.oam
  io := []
  hram := init.hram
  timer := { div := 0, tima := 0, tma := 0, tac := 0, divAcc := 0, timaAcc := 0 }
  ppu :=
    { mode := .oamScan, ly := 0, clock := 0, lycEq := true, off := false, lcdc := 0, stat := 0, scy := 0, scx := 0, lyc := 0
      bgp := 0, obp0 := 0, obp1 := 0, wy := 0, wx := 0, framebuffer := [] }
  serial := { sb := 0, sc := 0, out := [] }
  joypSel := 0
  dma := 0
  joypInput := 0xFF
  joypQueue := []
  cycles := 0
  draws := 0

/-- The machine right after reset (R450), for the load arguments that R7 leaves to the host: a cartridge image of 32 KiB of zeros
with the direct controller and INIT_MEM all zero (the common start state of 95_test_vectors.md section 3) and a boot program of
zeros (DESIGN CHOICE, unsafe: notes/assumptions/3.md and 2.md). Sys2Proof/Machine/Load.lean has the load of any image. -/
def State.reset : State :=
  State.afterLoad
    { controller := .direct, romBanks := 2, ramSize := 0, ramBanks := 0, rom := [], eram := [] }
    [] 0 { vram := [], wram := [], oam := [], hram := [], eram := [] }

end Sys2Proof.Machine
end

