-- ==== Sys2Proof/Machine/Words.lean ====
section
/-! DEFINITION. Putting words together and taking them apart (R8, R22, R64), used by the decoder and by the machine. -/

namespace Sys2Proof

/-- `hi:lo` (R8): the 16-bit value with `hi` in bits 15..8 and `lo` in bits 7..0. -/
def mkWord (hi lo : Byte) : Word := hi ++ lo

/-- `v[15:8]`. -/
def hiByte (v : Word) : Byte := v.extractLsb' 8 8

/-- `v[7:0]`. -/
def loByte (v : Word) : Byte := v.extractLsb' 0 8

/-- `sext_16` (R8): bit 7 copied into bits 15..8. -/
def sext16 (e : Byte) : Word := e.signExtend 16

/-- `zext_16` (R8). -/
def zext16 (n : Byte) : Word := n.setWidth 16

end Sys2Proof
end

