-- ==== Sys2Proof/Machine/Flags.lean ====
section
/-! DEFINITION. Every result and flag computation of 41_alu8.md to 43_rotate_shift_bit.md: over unbounded integers where the spec's
are (R200), narrowed at the end. A flag an instruction does not name keeps the value it is given. -/

namespace Sys2Proof.Machine

/-- `v = 0`, the rule of Z. -/
def isZero (v : Byte) : Bool := v == 0

/-- The result of the 8-bit adder or subtractor (R200). -/
structure AdderResult where
  r : Byte
  h : Bool
  c : Bool
  deriving DecidableEq, Repr

/-- `Add8` (R200): H is the carry out of bit 3, C the carry out of bit 7. -/
def add8 (a b : Byte) (cin : Bool) : AdderResult where
  r := BitVec.ofNat 8 (a.toNat + b.toNat + cin.toNat)
  h := decide (a.toNat % 16 + b.toNat % 16 + cin.toNat > 0x0F)
  c := decide (a.toNat + b.toNat + cin.toNat > 0xFF)

/-- `Sub8` (R200): H is the borrow from bit 4, C the borrow out of bit 7. -/
def sub8 (a b : Byte) (cin : Bool) : AdderResult where
  r := BitVec.ofInt 8 ((a.toNat : Int) - b.toNat - cin.toNat)
  h := decide (a.toNat % 16 < b.toNat % 16 + cin.toNat)
  c := decide (a.toNat < b.toNat + cin.toNat)

/-- The flags after the adder or the subtractor: Z from the result, N as given, H and C from the unit (R202 to R205). -/
def AdderResult.flags (x : AdderResult) (n : Bool) : Flags := { z := isZero x.r, n := n, h := x.h, c := x.c }

/-- A two-operand ALU instruction on A and s (R202 to R209): the new A and the new flags. -/
def alu (op : AluOp) (a s : Byte) (f : Flags) : Byte × Flags :=
  match op with
  | .add => ((add8 a s false).r, (add8 a s false).flags false)
  | .adc => ((add8 a s f.c).r, (add8 a s f.c).flags false)
  | .sub => ((sub8 a s false).r, (sub8 a s false).flags true)
  | .sbc => ((sub8 a s f.c).r, (sub8 a s f.c).flags true)
  | .and => (a &&& s, { z := isZero (a &&& s), n := false, h := true, c := false })
  | .xor => (a ^^^ s, { z := isZero (a ^^^ s), n := false, h := false, c := false })
  | .or => (a ||| s, { z := isZero (a ||| s), n := false, h := false, c := false })
  | .cp => (a, (sub8 a s false).flags true)

/-- INC (R210, R211): the result and the flags; C is kept. -/
def inc8 (v : Byte) (f : Flags) : Byte × Flags :=
  (v + 1, { z := isZero (v + 1), n := false, h := decide (v.toNat % 16 = 0xF), c := f.c })

/-- DEC (R212, R213): the result and the flags; C is kept. -/
def dec8 (v : Byte) (f : Flags) : Byte × Flags :=
  (v - 1, { z := isZero (v - 1), n := true, h := decide (v.toNat % 16 = 0), c := f.c })

/-- The two corrections of DAA (R214): the adjusted A and the new C. -/
def daaAdjust (a : Byte) (f : Flags) : Byte × Bool :=
  if f.n = false then
    let high : Byte × Bool := if f.c = true ∨ a.toNat > 0x99 then (a + 0x60, true) else (a, f.c)
    if f.h = true ∨ high.1.toNat % 16 > 0x09 then (high.1 + 0x06, high.2) else high
  else
    let high : Byte := if f.c = true then a - 0x60 else a
    (if f.h = true then high - 0x06 else high, f.c)

/-- DAA (R214): N is kept. -/
def daa (a : Byte) (f : Flags) : Byte × Flags :=
  ((daaAdjust a f).1, { z := isZero (daaAdjust a f).1, n := f.n, h := false, c := (daaAdjust a f).2 })

/-- ADD HL,rr (R240): the sum and the flags, H the carry out of bit 11 and C the carry out of bit 15; Z is kept. -/
def add16 (a b : Word) (f : Flags) : Word × Flags :=
  (a + b,
    { z := f.z, n := false
      h := decide (a.toNat % 0x1000 + b.toNat % 0x1000 > 0x0FFF)
      c := decide (a.toNat + b.toNat > 0xFFFF) })

/-- SP plus a signed offset (R175, R243): the sum, and the flags from the low byte only, with e unsigned in them. -/
def addOffset (sp : Word) (e : Byte) : Word × Flags :=
  (sp + sext16 e,
    { z := false, n := false
      h := decide (sp.toNat % 0x10 + e.toNat % 0x10 > 0x0F)
      c := decide (sp.toNat % 0x100 + e.toNat > 0xFF) })

/-- A carry as bit 0. -/
def bit0 (c : Bool) : Byte := if c then 0x01 else 0

/-- A carry as bit 7. -/
def bit7 (c : Bool) : Byte := if c then 0x80 else 0

/-- A rotate or shift (R265 to R272) of v with the carry `cin`: the result and the new C. -/
def rotate (op : RotOp) (v : Byte) (cin : Bool) : Byte × Bool :=
  match op with
  | .rlc => ((v <<< 1) ||| bit0 v[7], v[7])
  | .rrc => ((v >>> 1) ||| bit7 v[0], v[0])
  | .rl => ((v <<< 1) ||| bit0 cin, v[7])
  | .rr => ((v >>> 1) ||| bit7 cin, v[0])
  | .sla => (v <<< 1, v[7])
  | .sra => ((v >>> 1) ||| (v &&& 0x80), v[0])
  | .swap => (((v &&& 0x0F) <<< 4) ||| (v >>> 4), false)
  | .srl => (v >>> 1, v[0])

/-- The flags of the CB rotates and shifts (43_rotate_shift_bit.md section 3). -/
def rotateFlags (r : Byte) (c : Bool) : Flags := { z := isZero r, n := false, h := false, c := c }

/-- The flags of the four rotates of A (R260 to R263): Z is always 0. -/
def rotateAccFlags (c : Bool) : Flags := { z := false, n := false, h := false, c := c }

/-- The flags of BIT b (R273): Z is the complement of the bit; C is kept. -/
def bitFlags (v : Byte) (b : Fin 8) (f : Flags) : Flags := { z := !v.getLsbD b.val, n := false, h := true, c := f.c }

/-- RES b (R274). -/
def resBit (v : Byte) (b : Fin 8) : Byte := v &&& ~~~((1 : Byte) <<< b.val)

/-- SET b (R275). -/
def setBit (v : Byte) (b : Fin 8) : Byte := v ||| ((1 : Byte) <<< b.val)

end Sys2Proof.Machine
end

