-- ==== Sys2Proof/Config.lean ====
section
/-! DEFINITION. What an implementation fixes and the spec leaves open: the one source of free values. The numbers the spec does fix
(cycle costs, periods, shades) are in Sys2Proof/Machine/Params.lean. -/

namespace Sys2Proof

/-- The draws of R77 and R80: the byte that the `k`-th read of a place without a stated value returns. It has no body, so a
statement about such a read holds for every byte; a state counts the draws taken so far, so each read is a draw of its own.
DESIGN CHOICE, safe: notes/assumptions/1.md. -/
opaque Config.freeByte : Nat → Byte

end Sys2Proof
end

