-- ==== Sys2Proof/Machine/Memory.lean ====
section
/-! DEFINITION. The operations on one storage (`Memory`): a list of cells in canonical form, in which an unlisted offset reads 0. -/

namespace Sys2Proof.Machine

/-- The canonical form: offsets strictly rising, no cell holding what an unlisted offset reads as. -/
abbrev Memory.Wf (m : Memory) : Prop := m.Pairwise (fun x y => x.1 < y.1) ∧ ∀ cell ∈ m, cell.2 ≠ 0

/-- Every listed offset is below `size`. -/
abbrev Memory.Within (size : Nat) (m : Memory) : Prop := ∀ cell ∈ m, cell.1 < size

/-- The byte at an offset. -/
def Memory.read : Memory → Nat → Byte
  | [], _ => 0
  | (k, v) :: m, off => if k = off then v else Memory.read m off

/-- The cell (off, v) in front of the cells after it, unless v is what an unlisted offset reads as. -/
def Memory.cons (off : Nat) (v : Byte) (m : Memory) : Memory :=
  if v = 0 then m else (off, v) :: m

/-- Storing a byte at an offset. -/
def Memory.write : Memory → Nat → Byte → Memory
  | [], off, v => Memory.cons off v []
  | (k, w) :: m, off, v =>
    if k < off then (k, w) :: Memory.write m off v
    else if k = off then Memory.cons off v m
    else Memory.cons off v ((k, w) :: m)

/-- The cells of consecutive bytes from an offset on, in front of the cells after them. -/
def Memory.cells (off : Nat) : List Byte → Memory → Memory
  | [], after => after
  | v :: bytes, after => Memory.cons off v (Memory.cells (off + 1) bytes after)

/-- Storing consecutive bytes from an offset on, in one pass. -/
def Memory.writeRange (m : Memory) (off : Nat) (bytes : List Byte) : Memory :=
  m.filter (fun cell => decide (cell.1 < off)) ++
    Memory.cells off bytes (m.filter (fun cell => decide (off + bytes.length ≤ cell.1)))

/-- The storage that holds exactly these bytes from offset 0 on. -/
def Memory.ofBytes (bytes : List Byte) : Memory := Memory.cells 0 bytes []

end Sys2Proof.Machine
end

