-- ==== Sys2Proof/Machine/Map.lean ====
section
/-! DEFINITION. The address map (20_memory.md R60 to R83): which storage or register an address reaches, what a read returns, and
what a write does, with its side effects (R86 to R100). -/

namespace Sys2Proof.Machine

/-! ### The map -/

/-- The registers of the I/O region with behaviour or a field of their own (R45); every other cell is plain storage (R44). -/
inductive IoReg where
  | joyp | sb | sc | div | tima | tma | tac | intFlag
  | lcdc | stat | scy | scx | ly | lyc | dma | bgp | obp0 | obp1 | wy | wx
  | plain (off : Nat)
  deriving DecidableEq, Repr

/-- The I/O register at 0xFF00 + off (R45). -/
def ioRegAt (off : Nat) : IoReg :=
  if off = 0x00 then .joyp
  else if off = 0x01 then .sb
  else if off = 0x02 then .sc
  else if off = 0x04 then .div
  else if off = 0x05 then .tima
  else if off = 0x06 then .tma
  else if off = 0x07 then .tac
  else if off = 0x0F then .intFlag
  else if off = 0x40 then .lcdc
  else if off = 0x41 then .stat
  else if off = 0x42 then .scy
  else if off = 0x43 then .scx
  else if off = 0x44 then .ly
  else if off = 0x45 then .lyc
  else if off = 0x46 then .dma
  else if off = 0x47 then .bgp
  else if off = 0x48 then .obp0
  else if off = 0x49 then .obp1
  else if off = 0x4A then .wy
  else if off = 0x4B then .wx
  else .plain off

/-- What an address reaches: one constructor per row of the tables of R60 and R61, the two rows of work RAM together (R79). -/
inductive Region where
  /-- 0x0000-0x7FFF: the ROM window, with the boot overlay over its first 256 bytes. -/
  | rom (off : Nat)
  | vram (off : Nat)
  /-- 0xA000-0xBFFF: external RAM through the controller. -/
  | eram (off : Nat)
  /-- 0xC000-0xDFFF, and its echo 0xE000-0xFDFF. -/
  | wram (off : Nat)
  | oam (off : Nat)
  /-- 0xFEA0-0xFEFF: no storage. -/
  | unusable
  | io (reg : IoReg)
  | hram (off : Nat)
  | intEnable
  deriving DecidableEq, Repr

/-- The row of R60 and R61 that holds an address. -/
def regionOf (a : Word) : Region :=
  if a.toNat < 0x8000 then .rom a.toNat
  else if a.toNat < 0xA000 then .vram (a.toNat - 0x8000)
  else if a.toNat < 0xC000 then .eram (a.toNat - 0xA000)
  else if a.toNat < 0xE000 then .wram (a.toNat - 0xC000)
  else if a.toNat < 0xFE00 then .wram (a.toNat - 0xE000)
  else if a.toNat < 0xFEA0 then .oam (a.toNat - 0xFE00)
  else if a.toNat < 0xFF00 then .unusable
  else if a.toNat < 0xFF80 then .io (ioRegAt (a.toNat - 0xFF00))
  else if a.toNat < 0xFFFF then .hram (a.toNat - 0xFF80)
  else .intEnable

/-! ### The cartridge (R72 to R77) -/

/-- A zero ROM-bank register is read as 1, before the modulo (R73, R75, R89). -/
def nonzeroBank (bank : Nat) : Nat := if bank = 0 then 1 else bank

/-- The physical ROM bank that the ROM window shows at `off` (R72, R73, R75). -/
def Cart.romBankAt (c : Cart) (off : Nat) : Nat :=
  match c.controller with
  | .direct => off / 0x4000
  | .mbc1 r =>
    if off < 0x4000 then if r.mode = 1 then (r.bank2.toNat * 32) % c.romBanks else 0
    else (r.bank2.toNat * 32 + nonzeroBank r.bank1.toNat) % c.romBanks
  | .mbc3 r => if off < 0x4000 then 0 else nonzeroBank r.romBank.toNat % c.romBanks

/-- The index into the ROM image: `bank * 0x4000 + (address & 0x3FFF)` (R73). -/
def Cart.romIndex (c : Cart) (off : Nat) : Nat := c.romBankAt off * 0x4000 + off % 0x4000

/-- What an access to external RAM reaches (R77). -/
inductive EramAccess where
  /-- RAM is disabled or absent: reads 0xFF, writes dropped. -/
  | disabled
  /-- An MBC3 selection that is not RAM: reads are draws, writes dropped. -/
  | unmodelled
  /-- The cell of `eram` at this index. -/
  | cell (index : Nat)
  deriving DecidableEq, Repr

/-- The MBC1 external-RAM bank (R74). -/
def Cart.mbc1RamBank (c : Cart) (r : Mbc1) : Nat := if r.mode = 1 then r.bank2.toNat % c.ramBanks else 0

/-- R77: what the external-RAM offset `off` (address & 0x1FFF) reaches. -/
def Cart.eramAccess (c : Cart) (off : Nat) : EramAccess :=
  match c.controller with
  | .direct => .cell off
  | .mbc1 r =>
    if r.ramEnable = false ∨ c.ramSize = 0 then .disabled
    else .cell ((c.mbc1RamBank r * 0x2000 + off) % c.ramSize)
  | .mbc3 r =>
    if r.ramEnable = false then .disabled
    else if 4 ≤ r.ramBank.toNat then .unmodelled
    else if c.ramSize = 0 then .disabled
    else .cell ((r.ramBank.toNat % c.ramBanks * 0x2000 + off) % c.ramSize)

/-- A write to the ROM window is a controller register write (R86, R87, R88). -/
def Controller.write (off : Nat) (v : Byte) : Controller → Controller
  | .direct => .direct
  | .mbc1 r =>
    if off < 0x2000 then .mbc1 { r with ramEnable := v.extractLsb' 0 4 == 0xA }
    else if off < 0x4000 then .mbc1 { r with bank1 := v.extractLsb' 0 5 }
    else if off < 0x6000 then .mbc1 { r with bank2 := v.extractLsb' 0 2 }
    else .mbc1 { r with mode := v.extractLsb' 0 1 }
  | .mbc3 r =>
    if off < 0x2000 then .mbc3 { r with ramEnable := v.extractLsb' 0 4 == 0xA }
    else if off < 0x4000 then .mbc3 { r with romBank := v.extractLsb' 0 7 }
    else if off < 0x6000 then .mbc3 { r with ramBank := v }
    else .mbc3 r

/-! ### Reads -/

/-- The encoding of `ppu_mode` (R36), read in STAT[1:0]. -/
def PpuMode.code : PpuMode → BitVec 2
  | .hblank => 0
  | .vblank => 1
  | .oamScan => 2
  | .drawing => 3

/-- STAT as it reads: the stored bits 7..3, then `lyc_eq`, then `ppu_mode` (R45). -/
def Ppu.statByte (p : Ppu) : Byte := p.stat ++ BitVec.ofBool p.lycEq ++ p.mode.code

/-- JOYP as it reads (R91): JOYP_INPUT's low nibble when `sel[0] = 0`, its high nibble when `sel[1] = 0`, both ANDed. -/
def joypByte (sel : BitVec 2) (input : Byte) : Byte :=
  let directions : BitVec 4 := if sel[0] then 0xF else input.extractLsb' 0 4
  let buttons : BitVec 4 := if sel[1] then 0xF else input.extractLsb' 4 4
  (3 : BitVec 2) ++ sel ++ (directions &&& buttons)

/-- The value an I/O register reads as (R82). -/
def State.readIo (s : State) : IoReg → Byte
  | .joyp => joypByte s.joypSel s.joypInput
  | .sb => s.serial.sb
  | .sc => s.serial.sc
  | .div => s.timer.div
  | .tima => s.timer.tima
  | .tma => s.timer.tma
  | .tac => s.timer.tac
  | .intFlag => s.intFlag
  | .lcdc => s.ppu.lcdc
  | .stat => s.ppu.statByte
  | .scy => s.ppu.scy
  | .scx => s.ppu.scx
  | .ly => s.ppu.ly
  | .lyc => s.ppu.lyc
  | .dma => s.dma
  | .bgp => s.ppu.bgp
  | .obp0 => s.ppu.obp0
  | .obp1 => s.ppu.obp1
  | .wy => s.ppu.wy
  | .wx => s.ppu.wx
  | .plain off => s.io.read off

/-- The byte the ROM window reads as (R70, R72, R73, R75). -/
def State.readRom (s : State) (off : Nat) : Byte :=
  if s.bootActive ∧ off < 0x100 then s.boot.read off else s.cart.rom.read (s.cart.romIndex off)

/-- The byte external RAM reads as (R77). -/
def State.readEram (s : State) (off : Nat) : Byte :=
  match s.cart.eramAccess off with
  | .disabled => 0xFF
  | .unmodelled => Config.freeByte s.draws
  | .cell index => s.cart.eram.read index

/-- The byte a region reads as. -/
def State.readRegion (s : State) : Region → Byte
  | .rom off => s.readRom off
  | .vram off => s.vram.read off
  | .eram off => s.readEram off
  | .wram off => s.wram.read off
  | .oam off => s.oam.read off
  | .unusable => Config.freeByte s.draws
  | .io reg => s.readIo reg
  | .hram off => s.hram.read off
  | .intEnable => s.intEnable

/-- The value of `MemRead(a)` (R60). -/
def State.readByte (s : State) (a : Word) : Byte := s.readRegion (regionOf a)

/-- Whether reading a region takes a draw: the unusable region (R80) and the MBC3 selections of R77. -/
def State.drawsAt (s : State) : Region → Bool
  | .unusable => true
  | .eram off => s.cart.eramAccess off == .unmodelled
  | _ => false

/-- The state after a read: no read has a side effect (R66), but a draw is never used twice (DESIGN CHOICE, safe:
notes/assumptions/1.md). -/
def State.afterRead (s : State) (a : Word) : State :=
  if s.drawsAt (regionOf a) then { s with draws := s.draws + 1 } else s

/-- `MemRead(a)`: the byte, and the state after. -/
def State.readMem (s : State) (a : Word) : Byte × State := (s.readByte a, s.afterRead a)

/-! ### Writes -/

/-- OAM DMA (R96): `count` bytes from `src` on into `oam` from `off` on, one after the other. -/
def State.dmaCopy : Nat → Word → Nat → State → State
  | 0, _, _, s => s
  | count + 1, src, off, s =>
    let s' := s.afterRead src
    State.dmaCopy count (src + 1) (off + 1) { s' with oam := s'.oam.write off (s.readByte src) }

/-- A write to an I/O register, with its side effects (R90 to R100). -/
def State.writeIo (s : State) (v : Byte) : IoReg → State
  | .joyp => { s with joypSel := v.extractLsb' 4 2 }
  | .sb => { s with serial.sb := v }
  | .sc =>
    if v[7] then { s with serial.sc := v &&& 0x7F, serial.out := s.serial.out ++ [s.serial.sb] }
    else { s with serial.sc := v }
  | .div => { s with timer.div := 0, timer.divAcc := 0, timer.timaAcc := 0 }
  | .tima => { s with timer.tima := v }
  | .tma => { s with timer.tma := v }
  | .tac => { s with timer.tac := v }
  | .intFlag => { s with intFlag := v }
  | .lcdc => { s with ppu.lcdc := v }
  | .stat => { s with ppu.stat := v.extractLsb' 3 5 }
  | .scy => { s with ppu.scy := v }
  | .scx => { s with ppu.scx := v }
  | .ly => s
  | .lyc => { s with ppu.lyc := v }
  | .dma => State.dmaCopy 160 (mkWord v 0) 0 { s with dma := v }
  | .bgp => { s with ppu.bgp := v }
  | .obp0 => { s with ppu.obp0 := v }
  | .obp1 => { s with ppu.obp1 := v }
  | .wy => { s with ppu.wy := v }
  | .wx => { s with ppu.wx := v }
  | .plain off => { s with io := s.io.write off v }

/-- A write to external RAM (R77). -/
def State.writeEram (s : State) (off : Nat) (v : Byte) : State :=
  match s.cart.eramAccess off with
  | .disabled => s
  | .unmodelled => s
  | .cell index => { s with cart.eram := s.cart.eram.write index v }

/-- A write to a region (R61). -/
def State.writeRegion (s : State) (v : Byte) : Region → State
  | .rom off => { s with cart.controller := s.cart.controller.write off v }
  | .vram off => { s with vram := s.vram.write off v }
  | .eram off => s.writeEram off v
  | .wram off => { s with wram := s.wram.write off v }
  | .oam off => { s with oam := s.oam.write off v }
  | .unusable => s
  | .io reg => s.writeIo v reg
  | .hram off => { s with hram := s.hram.write off v }
  | .intEnable => { s with intEnable := v }

/-- `MemWrite(a, v)` (R61). -/
def State.writeByte (s : State) (a : Word) (v : Byte) : State := s.writeRegion v (regionOf a)

/-- Puts a byte into the storage that a read of the address reaches, as a load from outside would, with no side effect: into
`boot` under the overlay, into the ROM image through the controller, into a RAM or a plain I/O cell. An address without storage of
its own (disabled external RAM, the unusable region, a register) is left alone. For `State.withFetchWord` only: no instruction
does this (DESIGN CHOICE, safe: notes/assumptions/14.md). -/
def State.place (s : State) (a : Word) (v : Byte) : State :=
  match regionOf a with
  | .rom off =>
    if s.bootActive ∧ off < 0x100 then { s with boot := s.boot.write off v }
    else { s with cart.rom := s.cart.rom.write (s.cart.romIndex off) v }
  | .vram off => { s with vram := s.vram.write off v }
  | .eram off => s.writeEram off v
  | .wram off => { s with wram := s.wram.write off v }
  | .oam off => { s with oam := s.oam.write off v }
  | .unusable => s
  | .io (.plain off) => { s with io := s.io.write off v }
  | .io _ => s
  | .hram off => { s with hram := s.hram.write off v }
  | .intEnable => s

end Sys2Proof.Machine
end

