-- ==== Sys2Proof/Machine/Params.lean ====
section
/-! DEFINITION. The numbers of R7. All durations are in T-cycles (R7 CYCLE). -/

namespace Sys2Proof.Machine

/-- DISPATCH_CYCLES: the cost of an interrupt dispatch. -/
def dispatchCycles : Nat := 20

/-- HALT_SLICE: the cycles of a halted idle step. -/
def haltSlice : Nat := 4

/-- DIV_PERIOD: the cycles of one DIV increment. -/
def divPeriod : Nat := 256

/-- TIMER_PERIODS: the cycles of one TIMA increment, by TAC[1:0]. -/
def timerPeriod (tac : Byte) : Nat :=
  match tac.toNat % 4 with
  | 0 => 1024
  | 1 => 16
  | 2 => 64
  | _ => 256

/-- MODE_CYCLES: the cycles of one stay in a mode; for vertical blank, of one of its lines. -/
def modeCycles : PpuMode → Nat
  | .oamScan => 80
  | .drawing => 172
  | .hblank => 204
  | .vblank => 456

/-- LINES: the first scanline of vertical blank. -/
def firstVblankLine : Byte := 144

/-- LINES: the last of the 154 scanlines. -/
def lastLine : Byte := 153

/-- SHADE_RGBA: the four bytes of a shade, in the order R, G, B, A. -/
def shadeRgba (shade : Nat) : List Byte :=
  match shade with
  | 0 => [0xFF, 0xFF, 0xFF, 0xFF]
  | 1 => [0xAA, 0xAA, 0xAA, 0xFF]
  | 2 => [0x55, 0x55, 0x55, 0xFF]
  | _ => [0x00, 0x00, 0x00, 0xFF]

/-- The screen's width in pixels (R6). -/
def screenWidth : Nat := 160

/-- The bytes of one scanline of the framebuffer (R420). -/
def lineBytes : Nat := 640

end Sys2Proof.Machine
end

