-- ==== Sys2Proof/Machine/Ops.lean ====
section
/-! DEFINITION. The shared operations over registers and memory: register views and writes, how an instruction ends, the stack
(R173, R174), taking an interrupt (R362) and a Fatal condition (R390), and the return from an interrupt (R310). -/

namespace Sys2Proof.Machine

/-! ### Registers -/

/-- F as a byte (R21): Z, N, H, C in bits 7..4, and 0 in bits 3..0. -/
def Flags.toByte (f : Flags) : Byte :=
  BitVec.ofBool f.z ++ BitVec.ofBool f.n ++ BitVec.ofBool f.h ++ BitVec.ofBool f.c ++ (0 : BitVec 4)

/-- What a byte written to F leaves (R22): the low nibble is masked out. -/
def Flags.ofByte (v : Byte) : Flags := { z := v[7], n := v[6], h := v[5], c := v[4] }

/-- The pair views (R22): the first named register in bits 15..8. -/
def State.af (s : State) : Word := mkWord s.regs.a s.regs.f.toByte
def State.bc (s : State) : Word := mkWord s.regs.b s.regs.c
def State.de (s : State) : Word := mkWord s.regs.d s.regs.e
def State.hl (s : State) : Word := mkWord s.regs.h s.regs.l

/-- Writing a pair (R22); a write to AF keeps only the four flags. -/
def State.setAf (s : State) (v : Word) : State := { s with regs.a := hiByte v, regs.f := Flags.ofByte (loByte v) }
def State.setBc (s : State) (v : Word) : State := { s with regs.b := hiByte v, regs.c := loByte v }
def State.setDe (s : State) (v : Word) : State := { s with regs.d := hiByte v, regs.e := loByte v }
def State.setHl (s : State) (v : Word) : State := { s with regs.h := hiByte v, regs.l := loByte v }

def State.setA (s : State) (v : Byte) : State := { s with regs.a := v }
def State.setF (s : State) (f : Flags) : State := { s with regs.f := f }
def State.setSp (s : State) (v : Word) : State := { s with regs.sp := v }
def State.setPc (s : State) (v : Word) : State := { s with regs.pc := v }

/-! ### How an instruction ends (R150) -/

/-- The cost of the step's instruction, reported to the driver (R150, R350). -/
def State.spend (s : State) (cycles : Nat) : State := { s with cycles := cycles }

/-- The end of an instruction that writes no PC: PC = pc0 + length, and its cost (R150). The state a meaning is given has
PC = pc0, the address of the opcode (DEDUCED, safe: notes/assumptions/7.md). -/
def State.retire (s : State) (length : Word) (cycles : Nat) : State := (s.setPc (s.regs.pc + length)).spend cycles

/-- The end of an instruction that writes PC (R150). -/
def State.jump (s : State) (target : Word) (cycles : Nat) : State := (s.setPc target).spend cycles

/-! ### The stack (R26, R64) -/

/-- Pushing a 16-bit value (R173): the high byte at SP - 1, then the low byte at SP - 2. -/
def State.push16 (s : State) (v : Word) : State :=
  ((s.writeByte (s.regs.sp - 1) (hiByte v)).writeByte (s.regs.sp - 2) (loByte v)).setSp (s.regs.sp - 2)

/-- Popping a 16-bit value (R174): the low byte from SP, then the high byte from SP + 1. -/
def State.pop16 (s : State) : Word × State :=
  let (lo, s1) := s.readMem s.regs.sp
  let (hi, s2) := s1.readMem (s.regs.sp + 1)
  (mkWord hi lo, s2.setSp (s.regs.sp + 2))

/-! ### Taking an interrupt, and returning from one -/

/-- The vector of interrupt source i (R360). -/
def vectorOf (i : Nat) : Word := 0x0040 + 8 * BitVec.ofNat 16 i

/-- Clears request i in IF: `IF & ~(1 << i)` (R362). -/
def clearRequest (v : Byte) (i : Nat) : Byte := v &&& ~~~((1 : Byte) <<< i)

/-- Dispatch of source i (R362): PC is pushed, the machine goes to the vector, and after the pushes request i is cleared, with
`ime` and `halted`. Nothing else is saved. -/
def State.dispatch (s : State) (i : Nat) : State :=
  let s' := (s.push16 s.regs.pc).setPc (vectorOf i)
  { s' with intFlag := clearRequest s'.intFlag i, ime := false, halted := false }

/-- The return from an interrupt (R310): PC is popped and `ime` set at once; `ei_delay` is not changed. -/
def State.returnFromInterrupt (s : State) : State :=
  let (pc, s') := s.pop16
  { s'.setPc pc with ime := true }

/-- `raise Fatal(kind, opcode, pc0)` (R390): the record is kept, PC is pc0 + 1, and no cycles are reported. The step ends here
(`State.finishStep`) and no later step is enabled (`step`) (DEDUCED, safe:
notes/assumptions/6.md). -/
def State.raiseFatal (s : State) (kind : FatalKind) (opcode : Byte) : State :=
  { s.setPc (s.regs.pc + 1) with fatal := some { kind := kind, opcode := opcode, pc := s.regs.pc }, cycles := 0 }

end Sys2Proof.Machine
end

