-- ==== Sys2Proof/Machine/Operands.lean ====
section
/-! DEFINITION. The operand forms (30_encoding.md R123 to R127): reading and writing what a selector names. -/

namespace Sys2Proof.Machine

/-- Reading an 8-bit register (R124). -/
def State.reg8 (s : State) : Reg8 → Byte
  | .b => s.regs.b
  | .c => s.regs.c
  | .d => s.regs.d
  | .e => s.regs.e
  | .h => s.regs.h
  | .l => s.regs.l
  | .a => s.regs.a

/-- Writing an 8-bit register (R124). -/
def State.setReg8 (s : State) (r : Reg8) (v : Byte) : State :=
  match r with
  | .b => { s with regs.b := v }
  | .c => { s with regs.c := v }
  | .d => { s with regs.d := v }
  | .e => { s with regs.e := v }
  | .h => { s with regs.h := v }
  | .l => { s with regs.l := v }
  | .a => { s with regs.a := v }

/-- Reading a 16-bit register (R125). -/
def State.reg16 (s : State) : Reg16 → Word
  | .bc => s.bc
  | .de => s.de
  | .hl => s.hl
  | .sp => s.regs.sp

/-- Writing a 16-bit register (R125). -/
def State.setReg16 (s : State) (r : Reg16) (v : Word) : State :=
  match r with
  | .bc => s.setBc v
  | .de => s.setDe v
  | .hl => s.setHl v
  | .sp => s.setSp v

/-- Reading a register pair of PUSH (R126). -/
def State.stackReg (s : State) : StackReg → Word
  | .bc => s.bc
  | .de => s.de
  | .hl => s.hl
  | .af => s.af

/-- Writing a register pair of POP (R126). -/
def State.setStackReg (s : State) (r : StackReg) (v : Word) : State :=
  match r with
  | .bc => s.setBc v
  | .de => s.setDe v
  | .hl => s.setHl v
  | .af => s.setAf v

/-- Reading an 8-bit operand (R124): a register, or `MemRead(H:L)`. -/
def State.readOperand (s : State) : Operand8 → Byte × State
  | .reg r => (s.reg8 r, s)
  | .atHl => s.readMem s.hl

/-- Writing an 8-bit operand (R124): a register, or `MemWrite(H:L, v)`. -/
def State.writeOperand (s : State) (o : Operand8) (v : Byte) : State :=
  match o with
  | .reg r => s.setReg8 r v
  | .atHl => s.writeByte s.hl v

/-- A cost that depends on the operand: `reg` for a register, `mem` for (HL) (R264). -/
def operandCost (o : Operand8) (reg mem : Nat) : Nat :=
  match o with
  | .reg _ => reg
  | .atHl => mem

/-- A condition, from the flags at the start of the instruction (R127, R300). -/
def condHolds (f : Flags) : Cond → Bool
  | .nz => !f.z
  | .z => f.z
  | .nc => !f.c
  | .c => f.c

/-- The address of the LDH forms: 0xFF00 + zext(n) (R123). -/
def highPage (n : Byte) : Word := 0xFF00 + zext16 n

end Sys2Proof.Machine
end

