-- ==== Sys2Proof/Machine/Alu16.lean ====
section
/-! DEFINITION. The 16-bit arithmetic instructions (42_alu16.md R240 to R243). Each instruction has a definition of its own over the shared operations; the state it is
given has PC = pc0, the address of its opcode. -/

namespace Sys2Proof.Machine

/-! ### Shared operations -/

/-- ADD HL,rr (R240). -/
def State.addHl (s : State) (r : Reg16) : State :=
  ((s.setHl (add16 s.hl (s.reg16 r) s.regs.f).1).setF (add16 s.hl (s.reg16 r) s.regs.f).2).retire 1 8

/-! ### The instructions -/

/-- INC BC (R241). -/
def execIncBc (s : State) : Result := .next ((s.setReg16 .bc (s.reg16 .bc + 1)).retire 1 8)

/-- ADD HL,BC (R240). -/
def execAddHlBc (s : State) : Result := .next (s.addHl .bc)

/-- DEC BC (R242). -/
def execDecBc (s : State) : Result := .next ((s.setReg16 .bc (s.reg16 .bc - 1)).retire 1 8)

/-- INC DE (R241). -/
def execIncDe (s : State) : Result := .next ((s.setReg16 .de (s.reg16 .de + 1)).retire 1 8)

/-- ADD HL,DE (R240). -/
def execAddHlDe (s : State) : Result := .next (s.addHl .de)

/-- DEC DE (R242). -/
def execDecDe (s : State) : Result := .next ((s.setReg16 .de (s.reg16 .de - 1)).retire 1 8)

/-- INC HL (R241). -/
def execIncHl (s : State) : Result := .next ((s.setReg16 .hl (s.reg16 .hl + 1)).retire 1 8)

/-- ADD HL,HL (R240). -/
def execAddHlHl (s : State) : Result := .next (s.addHl .hl)

/-- DEC HL (R242). -/
def execDecHl (s : State) : Result := .next ((s.setReg16 .hl (s.reg16 .hl - 1)).retire 1 8)

/-- INC SP (R241). -/
def execIncSp (s : State) : Result := .next ((s.setReg16 .sp (s.reg16 .sp + 1)).retire 1 8)

/-- ADD HL,SP (R240). -/
def execAddHlSp (s : State) : Result := .next (s.addHl .sp)

/-- DEC SP (R242). -/
def execDecSp (s : State) : Result := .next ((s.setReg16 .sp (s.reg16 .sp - 1)).retire 1 8)

/-- ADD SP,e (R243). -/
def execAddSpE (e : Byte) (s : State) : Result :=
  .next (((s.setSp (addOffset s.regs.sp e).1).setF (addOffset s.regs.sp e).2).retire 2 16)

end Sys2Proof.Machine
end

