-- ==== Sys2Proof/Machine/Alu8.lean ====
section
/-! DEFINITION. The 8-bit arithmetic and logic instructions (41_alu8.md R200 to R217). Each instruction has a definition of its own over the shared operations; the state it is
given has PC = pc0, the address of its opcode. -/

namespace Sys2Proof.Machine

/-! ### Shared operations -/

/-- The effect of a two-operand ALU instruction whose source operand is `v` on A and F (R202 to R209). -/
def State.aluWith (s : State) (op : AluOp) (v : Byte) : State :=
  (s.setA (alu op s.regs.a v s.regs.f).1).setF (alu op s.regs.a v s.regs.f).2

/-- A two-operand ALU instruction on (HL) (R201, second form). -/
def State.aluAtHl (s : State) (op : AluOp) : State :=
  ((s.afterRead s.hl).aluWith op (s.readByte s.hl)).retire 1 8

/-- INC r and INC (HL) (R210, R211). -/
def State.incOperand (s : State) (o : Operand8) : State :=
  let (v, s1) := s.readOperand o
  ((s1.writeOperand o (inc8 v s.regs.f).1).setF (inc8 v s.regs.f).2).retire 1 (operandCost o 4 12)

/-- DEC r and DEC (HL) (R212, R213). -/
def State.decOperand (s : State) (o : Operand8) : State :=
  let (v, s1) := s.readOperand o
  ((s1.writeOperand o (dec8 v s.regs.f).1).setF (dec8 v s.regs.f).2).retire 1 (operandCost o 4 12)

/-! ### The instructions -/

/-- INC B (R210). -/
def execIncB (s : State) : Result := .next (s.incOperand (.reg .b))

/-- DEC B (R212). -/
def execDecB (s : State) : Result := .next (s.decOperand (.reg .b))

/-- INC C (R210). -/
def execIncC (s : State) : Result := .next (s.incOperand (.reg .c))

/-- DEC C (R212). -/
def execDecC (s : State) : Result := .next (s.decOperand (.reg .c))

/-- INC D (R210). -/
def execIncD (s : State) : Result := .next (s.incOperand (.reg .d))

/-- DEC D (R212). -/
def execDecD (s : State) : Result := .next (s.decOperand (.reg .d))

/-- INC E (R210). -/
def execIncE (s : State) : Result := .next (s.incOperand (.reg .e))

/-- DEC E (R212). -/
def execDecE (s : State) : Result := .next (s.decOperand (.reg .e))

/-- INC H (R210). -/
def execIncH (s : State) : Result := .next (s.incOperand (.reg .h))

/-- DEC H (R212). -/
def execDecH (s : State) : Result := .next (s.decOperand (.reg .h))

/-- DAA (R214). -/
def execDaa (s : State) : Result := .next (((s.setA (daa s.regs.a s.regs.f).1).setF (daa s.regs.a s.regs.f).2).retire 1 4)

/-- INC L (R210). -/
def execIncL (s : State) : Result := .next (s.incOperand (.reg .l))

/-- DEC L (R212). -/
def execDecL (s : State) : Result := .next (s.decOperand (.reg .l))

/-- CPL (R215). -/
def execCplAcc (s : State) : Result := .next (((s.setA (~~~s.regs.a)).setF { s.regs.f with n := true, h := true }).retire 1 4)

/-- INC (HL) (R211). -/
def execIncAtHl (s : State) : Result := .next (s.incOperand .atHl)

/-- DEC (HL) (R213). -/
def execDecAtHl (s : State) : Result := .next (s.decOperand .atHl)

/-- SCF (R216). -/
def execScf (s : State) : Result := .next ((s.setF { s.regs.f with n := false, h := false, c := true }).retire 1 4)

/-- INC A (R210). -/
def execIncA (s : State) : Result := .next (s.incOperand (.reg .a))

/-- DEC A (R212). -/
def execDecA (s : State) : Result := .next (s.decOperand (.reg .a))

/-- CCF (R217). -/
def execCcf (s : State) : Result := .next ((s.setF { s.regs.f with n := false, h := false, c := !s.regs.f.c }).retire 1 4)

/-- ADD A,B (R202). -/
def execAddAB (s : State) : Result := .next ((s.aluWith .add (s.reg8 .b)).retire 1 4)

/-- ADD A,C (R202). -/
def execAddAC (s : State) : Result := .next ((s.aluWith .add (s.reg8 .c)).retire 1 4)

/-- ADD A,D (R202). -/
def execAddAD (s : State) : Result := .next ((s.aluWith .add (s.reg8 .d)).retire 1 4)

/-- ADD A,E (R202). -/
def execAddAE (s : State) : Result := .next ((s.aluWith .add (s.reg8 .e)).retire 1 4)

/-- ADD A,H (R202). -/
def execAddAH (s : State) : Result := .next ((s.aluWith .add (s.reg8 .h)).retire 1 4)

/-- ADD A,L (R202). -/
def execAddAL (s : State) : Result := .next ((s.aluWith .add (s.reg8 .l)).retire 1 4)

/-- ADD A,(HL) (R202). -/
def execAddAAtHl (s : State) : Result := .next (s.aluAtHl .add)

/-- ADD A,A (R202). -/
def execAddAA (s : State) : Result := .next ((s.aluWith .add (s.reg8 .a)).retire 1 4)

/-- ADC A,B (R203). -/
def execAdcAB (s : State) : Result := .next ((s.aluWith .adc (s.reg8 .b)).retire 1 4)

/-- ADC A,C (R203). -/
def execAdcAC (s : State) : Result := .next ((s.aluWith .adc (s.reg8 .c)).retire 1 4)

/-- ADC A,D (R203). -/
def execAdcAD (s : State) : Result := .next ((s.aluWith .adc (s.reg8 .d)).retire 1 4)

/-- ADC A,E (R203). -/
def execAdcAE (s : State) : Result := .next ((s.aluWith .adc (s.reg8 .e)).retire 1 4)

/-- ADC A,H (R203). -/
def execAdcAH (s : State) : Result := .next ((s.aluWith .adc (s.reg8 .h)).retire 1 4)

/-- ADC A,L (R203). -/
def execAdcAL (s : State) : Result := .next ((s.aluWith .adc (s.reg8 .l)).retire 1 4)

/-- ADC A,(HL) (R203). -/
def execAdcAAtHl (s : State) : Result := .next (s.aluAtHl .adc)

/-- ADC A,A (R203). -/
def execAdcAA (s : State) : Result := .next ((s.aluWith .adc (s.reg8 .a)).retire 1 4)

/-- SUB B (R204). -/
def execSubB (s : State) : Result := .next ((s.aluWith .sub (s.reg8 .b)).retire 1 4)

/-- SUB C (R204). -/
def execSubC (s : State) : Result := .next ((s.aluWith .sub (s.reg8 .c)).retire 1 4)

/-- SUB D (R204). -/
def execSubD (s : State) : Result := .next ((s.aluWith .sub (s.reg8 .d)).retire 1 4)

/-- SUB E (R204). -/
def execSubE (s : State) : Result := .next ((s.aluWith .sub (s.reg8 .e)).retire 1 4)

/-- SUB H (R204). -/
def execSubH (s : State) : Result := .next ((s.aluWith .sub (s.reg8 .h)).retire 1 4)

/-- SUB L (R204). -/
def execSubL (s : State) : Result := .next ((s.aluWith .sub (s.reg8 .l)).retire 1 4)

/-- SUB (HL) (R204). -/
def execSubAtHl (s : State) : Result := .next (s.aluAtHl .sub)

/-- SUB A (R204). -/
def execSubA (s : State) : Result := .next ((s.aluWith .sub (s.reg8 .a)).retire 1 4)

/-- SBC A,B (R205). -/
def execSbcAB (s : State) : Result := .next ((s.aluWith .sbc (s.reg8 .b)).retire 1 4)

/-- SBC A,C (R205). -/
def execSbcAC (s : State) : Result := .next ((s.aluWith .sbc (s.reg8 .c)).retire 1 4)

/-- SBC A,D (R205). -/
def execSbcAD (s : State) : Result := .next ((s.aluWith .sbc (s.reg8 .d)).retire 1 4)

/-- SBC A,E (R205). -/
def execSbcAE (s : State) : Result := .next ((s.aluWith .sbc (s.reg8 .e)).retire 1 4)

/-- SBC A,H (R205). -/
def execSbcAH (s : State) : Result := .next ((s.aluWith .sbc (s.reg8 .h)).retire 1 4)

/-- SBC A,L (R205). -/
def execSbcAL (s : State) : Result := .next ((s.aluWith .sbc (s.reg8 .l)).retire 1 4)

/-- SBC A,(HL) (R205). -/
def execSbcAAtHl (s : State) : Result := .next (s.aluAtHl .sbc)

/-- SBC A,A (R205). -/
def execSbcAA (s : State) : Result := .next ((s.aluWith .sbc (s.reg8 .a)).retire 1 4)

/-- AND B (R206). -/
def execAndB (s : State) : Result := .next ((s.aluWith .and (s.reg8 .b)).retire 1 4)

/-- AND C (R206). -/
def execAndC (s : State) : Result := .next ((s.aluWith .and (s.reg8 .c)).retire 1 4)

/-- AND D (R206). -/
def execAndD (s : State) : Result := .next ((s.aluWith .and (s.reg8 .d)).retire 1 4)

/-- AND E (R206). -/
def execAndE (s : State) : Result := .next ((s.aluWith .and (s.reg8 .e)).retire 1 4)

/-- AND H (R206). -/
def execAndH (s : State) : Result := .next ((s.aluWith .and (s.reg8 .h)).retire 1 4)

/-- AND L (R206). -/
def execAndL (s : State) : Result := .next ((s.aluWith .and (s.reg8 .l)).retire 1 4)

/-- AND (HL) (R206). -/
def execAndAtHl (s : State) : Result := .next (s.aluAtHl .and)

/-- AND A (R206). -/
def execAndA (s : State) : Result := .next ((s.aluWith .and (s.reg8 .a)).retire 1 4)

/-- XOR B (R207). -/
def execXorB (s : State) : Result := .next ((s.aluWith .xor (s.reg8 .b)).retire 1 4)

/-- XOR C (R207). -/
def execXorC (s : State) : Result := .next ((s.aluWith .xor (s.reg8 .c)).retire 1 4)

/-- XOR D (R207). -/
def execXorD (s : State) : Result := .next ((s.aluWith .xor (s.reg8 .d)).retire 1 4)

/-- XOR E (R207). -/
def execXorE (s : State) : Result := .next ((s.aluWith .xor (s.reg8 .e)).retire 1 4)

/-- XOR H (R207). -/
def execXorH (s : State) : Result := .next ((s.aluWith .xor (s.reg8 .h)).retire 1 4)

/-- XOR L (R207). -/
def execXorL (s : State) : Result := .next ((s.aluWith .xor (s.reg8 .l)).retire 1 4)

/-- XOR (HL) (R207). -/
def execXorAtHl (s : State) : Result := .next (s.aluAtHl .xor)

/-- XOR A (R207). -/
def execXorA (s : State) : Result := .next ((s.aluWith .xor (s.reg8 .a)).retire 1 4)

/-- OR B (R208). -/
def execOrB (s : State) : Result := .next ((s.aluWith .or (s.reg8 .b)).retire 1 4)

/-- OR C (R208). -/
def execOrC (s : State) : Result := .next ((s.aluWith .or (s.reg8 .c)).retire 1 4)

/-- OR D (R208). -/
def execOrD (s : State) : Result := .next ((s.aluWith .or (s.reg8 .d)).retire 1 4)

/-- OR E (R208). -/
def execOrE (s : State) : Result := .next ((s.aluWith .or (s.reg8 .e)).retire 1 4)

/-- OR H (R208). -/
def execOrH (s : State) : Result := .next ((s.aluWith .or (s.reg8 .h)).retire 1 4)

/-- OR L (R208). -/
def execOrL (s : State) : Result := .next ((s.aluWith .or (s.reg8 .l)).retire 1 4)

/-- OR (HL) (R208). -/
def execOrAtHl (s : State) : Result := .next (s.aluAtHl .or)

/-- OR A (R208). -/
def execOrA (s : State) : Result := .next ((s.aluWith .or (s.reg8 .a)).retire 1 4)

/-- CP B (R209). -/
def execCpB (s : State) : Result := .next ((s.aluWith .cp (s.reg8 .b)).retire 1 4)

/-- CP C (R209). -/
def execCpC (s : State) : Result := .next ((s.aluWith .cp (s.reg8 .c)).retire 1 4)

/-- CP D (R209). -/
def execCpD (s : State) : Result := .next ((s.aluWith .cp (s.reg8 .d)).retire 1 4)

/-- CP E (R209). -/
def execCpE (s : State) : Result := .next ((s.aluWith .cp (s.reg8 .e)).retire 1 4)

/-- CP H (R209). -/
def execCpH (s : State) : Result := .next ((s.aluWith .cp (s.reg8 .h)).retire 1 4)

/-- CP L (R209). -/
def execCpL (s : State) : Result := .next ((s.aluWith .cp (s.reg8 .l)).retire 1 4)

/-- CP (HL) (R209). -/
def execCpAtHl (s : State) : Result := .next (s.aluAtHl .cp)

/-- CP A (R209). -/
def execCpA (s : State) : Result := .next ((s.aluWith .cp (s.reg8 .a)).retire 1 4)

/-- ADD A,n (R202). -/
def execAddAN (n : Byte) (s : State) : Result := .next ((s.aluWith .add n).retire 2 8)

/-- ADC A,n (R203). -/
def execAdcAN (n : Byte) (s : State) : Result := .next ((s.aluWith .adc n).retire 2 8)

/-- SUB n (R204). -/
def execSubN (n : Byte) (s : State) : Result := .next ((s.aluWith .sub n).retire 2 8)

/-- SBC A,n (R205). -/
def execSbcAN (n : Byte) (s : State) : Result := .next ((s.aluWith .sbc n).retire 2 8)

/-- AND n (R206). -/
def execAndN (n : Byte) (s : State) : Result := .next ((s.aluWith .and n).retire 2 8)

/-- XOR n (R207). -/
def execXorN (n : Byte) (s : State) : Result := .next ((s.aluWith .xor n).retire 2 8)

/-- OR n (R208). -/
def execOrN (n : Byte) (s : State) : Result := .next ((s.aluWith .or n).retire 2 8)

/-- CP n (R209). -/
def execCpN (n : Byte) (s : State) : Result := .next ((s.aluWith .cp n).retire 2 8)

end Sys2Proof.Machine
end

