-- ==== Sys2Proof/Machine/Bits.lean ====
section
/-! DEFINITION. The bit test, reset and set instructions (43_rotate_shift_bit.md R273 to R275). Each instruction has a definition of its own over the shared operations; the state it is
given has PC = pc0, the address of its opcode. -/

namespace Sys2Proof.Machine

/-! ### Shared operations -/

/-- BIT b,o (R273): the operand is not written. -/
def State.testBit (s : State) (b : Fin 8) (o : Operand8) : State :=
  let (v, s1) := s.readOperand o
  (s1.setF (bitFlags v b s.regs.f)).retire 2 (operandCost o 8 12)

/-- RES b,o (R274): the operand is written even when the bit is 0 already. -/
def State.resetBit (s : State) (b : Fin 8) (o : Operand8) : State :=
  let (v, s1) := s.readOperand o
  (s1.writeOperand o (resBit v b)).retire 2 (operandCost o 8 16)

/-- SET b,o (R275). -/
def State.assignBit (s : State) (b : Fin 8) (o : Operand8) : State :=
  let (v, s1) := s.readOperand o
  (s1.writeOperand o (setBit v b)).retire 2 (operandCost o 8 16)

/-! ### The instructions -/

/-- BIT 0,B (R273). -/
def execBit0B (s : State) : Result := .next (s.testBit 0 (.reg .b))

/-- BIT 0,C (R273). -/
def execBit0C (s : State) : Result := .next (s.testBit 0 (.reg .c))

/-- BIT 0,D (R273). -/
def execBit0D (s : State) : Result := .next (s.testBit 0 (.reg .d))

/-- BIT 0,E (R273). -/
def execBit0E (s : State) : Result := .next (s.testBit 0 (.reg .e))

/-- BIT 0,H (R273). -/
def execBit0H (s : State) : Result := .next (s.testBit 0 (.reg .h))

/-- BIT 0,L (R273). -/
def execBit0L (s : State) : Result := .next (s.testBit 0 (.reg .l))

/-- BIT 0,(HL) (R273). -/
def execBit0AtHl (s : State) : Result := .next (s.testBit 0 .atHl)

/-- BIT 0,A (R273). -/
def execBit0A (s : State) : Result := .next (s.testBit 0 (.reg .a))

/-- BIT 1,B (R273). -/
def execBit1B (s : State) : Result := .next (s.testBit 1 (.reg .b))

/-- BIT 1,C (R273). -/
def execBit1C (s : State) : Result := .next (s.testBit 1 (.reg .c))

/-- BIT 1,D (R273). -/
def execBit1D (s : State) : Result := .next (s.testBit 1 (.reg .d))

/-- BIT 1,E (R273). -/
def execBit1E (s : State) : Result := .next (s.testBit 1 (.reg .e))

/-- BIT 1,H (R273). -/
def execBit1H (s : State) : Result := .next (s.testBit 1 (.reg .h))

/-- BIT 1,L (R273). -/
def execBit1L (s : State) : Result := .next (s.testBit 1 (.reg .l))

/-- BIT 1,(HL) (R273). -/
def execBit1AtHl (s : State) : Result := .next (s.testBit 1 .atHl)

/-- BIT 1,A (R273). -/
def execBit1A (s : State) : Result := .next (s.testBit 1 (.reg .a))

/-- BIT 2,B (R273). -/
def execBit2B (s : State) : Result := .next (s.testBit 2 (.reg .b))

/-- BIT 2,C (R273). -/
def execBit2C (s : State) : Result := .next (s.testBit 2 (.reg .c))

/-- BIT 2,D (R273). -/
def execBit2D (s : State) : Result := .next (s.testBit 2 (.reg .d))

/-- BIT 2,E (R273). -/
def execBit2E (s : State) : Result := .next (s.testBit 2 (.reg .e))

/-- BIT 2,H (R273). -/
def execBit2H (s : State) : Result := .next (s.testBit 2 (.reg .h))

/-- BIT 2,L (R273). -/
def execBit2L (s : State) : Result := .next (s.testBit 2 (.reg .l))

/-- BIT 2,(HL) (R273). -/
def execBit2AtHl (s : State) : Result := .next (s.testBit 2 .atHl)

/-- BIT 2,A (R273). -/
def execBit2A (s : State) : Result := .next (s.testBit 2 (.reg .a))

/-- BIT 3,B (R273). -/
def execBit3B (s : State) : Result := .next (s.testBit 3 (.reg .b))

/-- BIT 3,C (R273). -/
def execBit3C (s : State) : Result := .next (s.testBit 3 (.reg .c))

/-- BIT 3,D (R273). -/
def execBit3D (s : State) : Result := .next (s.testBit 3 (.reg .d))

/-- BIT 3,E (R273). -/
def execBit3E (s : State) : Result := .next (s.testBit 3 (.reg .e))

/-- BIT 3,H (R273). -/
def execBit3H (s : State) : Result := .next (s.testBit 3 (.reg .h))

/-- BIT 3,L (R273). -/
def execBit3L (s : State) : Result := .next (s.testBit 3 (.reg .l))

/-- BIT 3,(HL) (R273). -/
def execBit3AtHl (s : State) : Result := .next (s.testBit 3 .atHl)

/-- BIT 3,A (R273). -/
def execBit3A (s : State) : Result := .next (s.testBit 3 (.reg .a))

/-- BIT 4,B (R273). -/
def execBit4B (s : State) : Result := .next (s.testBit 4 (.reg .b))

/-- BIT 4,C (R273). -/
def execBit4C (s : State) : Result := .next (s.testBit 4 (.reg .c))

/-- BIT 4,D (R273). -/
def execBit4D (s : State) : Result := .next (s.testBit 4 (.reg .d))

/-- BIT 4,E (R273). -/
def execBit4E (s : State) : Result := .next (s.testBit 4 (.reg .e))

/-- BIT 4,H (R273). -/
def execBit4H (s : State) : Result := .next (s.testBit 4 (.reg .h))

/-- BIT 4,L (R273). -/
def execBit4L (s : State) : Result := .next (s.testBit 4 (.reg .l))

/-- BIT 4,(HL) (R273). -/
def execBit4AtHl (s : State) : Result := .next (s.testBit 4 .atHl)

/-- BIT 4,A (R273). -/
def execBit4A (s : State) : Result := .next (s.testBit 4 (.reg .a))

/-- BIT 5,B (R273). -/
def execBit5B (s : State) : Result := .next (s.testBit 5 (.reg .b))

/-- BIT 5,C (R273). -/
def execBit5C (s : State) : Result := .next (s.testBit 5 (.reg .c))

/-- BIT 5,D (R273). -/
def execBit5D (s : State) : Result := .next (s.testBit 5 (.reg .d))

/-- BIT 5,E (R273). -/
def execBit5E (s : State) : Result := .next (s.testBit 5 (.reg .e))

/-- BIT 5,H (R273). -/
def execBit5H (s : State) : Result := .next (s.testBit 5 (.reg .h))

/-- BIT 5,L (R273). -/
def execBit5L (s : State) : Result := .next (s.testBit 5 (.reg .l))

/-- BIT 5,(HL) (R273). -/
def execBit5AtHl (s : State) : Result := .next (s.testBit 5 .atHl)

/-- BIT 5,A (R273). -/
def execBit5A (s : State) : Result := .next (s.testBit 5 (.reg .a))

/-- BIT 6,B (R273). -/
def execBit6B (s : State) : Result := .next (s.testBit 6 (.reg .b))

/-- BIT 6,C (R273). -/
def execBit6C (s : State) : Result := .next (s.testBit 6 (.reg .c))

/-- BIT 6,D (R273). -/
def execBit6D (s : State) : Result := .next (s.testBit 6 (.reg .d))

/-- BIT 6,E (R273). -/
def execBit6E (s : State) : Result := .next (s.testBit 6 (.reg .e))

/-- BIT 6,H (R273). -/
def execBit6H (s : State) : Result := .next (s.testBit 6 (.reg .h))

/-- BIT 6,L (R273). -/
def execBit6L (s : State) : Result := .next (s.testBit 6 (.reg .l))

/-- BIT 6,(HL) (R273). -/
def execBit6AtHl (s : State) : Result := .next (s.testBit 6 .atHl)

/-- BIT 6,A (R273). -/
def execBit6A (s : State) : Result := .next (s.testBit 6 (.reg .a))

/-- BIT 7,B (R273). -/
def execBit7B (s : State) : Result := .next (s.testBit 7 (.reg .b))

/-- BIT 7,C (R273). -/
def execBit7C (s : State) : Result := .next (s.testBit 7 (.reg .c))

/-- BIT 7,D (R273). -/
def execBit7D (s : State) : Result := .next (s.testBit 7 (.reg .d))

/-- BIT 7,E (R273). -/
def execBit7E (s : State) : Result := .next (s.testBit 7 (.reg .e))

/-- BIT 7,H (R273). -/
def execBit7H (s : State) : Result := .next (s.testBit 7 (.reg .h))

/-- BIT 7,L (R273). -/
def execBit7L (s : State) : Result := .next (s.testBit 7 (.reg .l))

/-- BIT 7,(HL) (R273). -/
def execBit7AtHl (s : State) : Result := .next (s.testBit 7 .atHl)

/-- BIT 7,A (R273). -/
def execBit7A (s : State) : Result := .next (s.testBit 7 (.reg .a))

/-- RES 0,B (R274). -/
def execRes0B (s : State) : Result := .next (s.resetBit 0 (.reg .b))

/-- RES 0,C (R274). -/
def execRes0C (s : State) : Result := .next (s.resetBit 0 (.reg .c))

/-- RES 0,D (R274). -/
def execRes0D (s : State) : Result := .next (s.resetBit 0 (.reg .d))

/-- RES 0,E (R274). -/
def execRes0E (s : State) : Result := .next (s.resetBit 0 (.reg .e))

/-- RES 0,H (R274). -/
def execRes0H (s : State) : Result := .next (s.resetBit 0 (.reg .h))

/-- RES 0,L (R274). -/
def execRes0L (s : State) : Result := .next (s.resetBit 0 (.reg .l))

/-- RES 0,(HL) (R274). -/
def execRes0AtHl (s : State) : Result := .next (s.resetBit 0 .atHl)

/-- RES 0,A (R274). -/
def execRes0A (s : State) : Result := .next (s.resetBit 0 (.reg .a))

/-- RES 1,B (R274). -/
def execRes1B (s : State) : Result := .next (s.resetBit 1 (.reg .b))

/-- RES 1,C (R274). -/
def execRes1C (s : State) : Result := .next (s.resetBit 1 (.reg .c))

/-- RES 1,D (R274). -/
def execRes1D (s : State) : Result := .next (s.resetBit 1 (.reg .d))

/-- RES 1,E (R274). -/
def execRes1E (s : State) : Result := .next (s.resetBit 1 (.reg .e))

/-- RES 1,H (R274). -/
def execRes1H (s : State) : Result := .next (s.resetBit 1 (.reg .h))

/-- RES 1,L (R274). -/
def execRes1L (s : State) : Result := .next (s.resetBit 1 (.reg .l))

/-- RES 1,(HL) (R274). -/
def execRes1AtHl (s : State) : Result := .next (s.resetBit 1 .atHl)

/-- RES 1,A (R274). -/
def execRes1A (s : State) : Result := .next (s.resetBit 1 (.reg .a))

/-- RES 2,B (R274). -/
def execRes2B (s : State) : Result := .next (s.resetBit 2 (.reg .b))

/-- RES 2,C (R274). -/
def execRes2C (s : State) : Result := .next (s.resetBit 2 (.reg .c))

/-- RES 2,D (R274). -/
def execRes2D (s : State) : Result := .next (s.resetBit 2 (.reg .d))

/-- RES 2,E (R274). -/
def execRes2E (s : State) : Result := .next (s.resetBit 2 (.reg .e))

/-- RES 2,H (R274). -/
def execRes2H (s : State) : Result := .next (s.resetBit 2 (.reg .h))

/-- RES 2,L (R274). -/
def execRes2L (s : State) : Result := .next (s.resetBit 2 (.reg .l))

/-- RES 2,(HL) (R274). -/
def execRes2AtHl (s : State) : Result := .next (s.resetBit 2 .atHl)

/-- RES 2,A (R274). -/
def execRes2A (s : State) : Result := .next (s.resetBit 2 (.reg .a))

/-- RES 3,B (R274). -/
def execRes3B (s : State) : Result := .next (s.resetBit 3 (.reg .b))

/-- RES 3,C (R274). -/
def execRes3C (s : State) : Result := .next (s.resetBit 3 (.reg .c))

/-- RES 3,D (R274). -/
def execRes3D (s : State) : Result := .next (s.resetBit 3 (.reg .d))

/-- RES 3,E (R274). -/
def execRes3E (s : State) : Result := .next (s.resetBit 3 (.reg .e))

/-- RES 3,H (R274). -/
def execRes3H (s : State) : Result := .next (s.resetBit 3 (.reg .h))

/-- RES 3,L (R274). -/
def execRes3L (s : State) : Result := .next (s.resetBit 3 (.reg .l))

/-- RES 3,(HL) (R274). -/
def execRes3AtHl (s : State) : Result := .next (s.resetBit 3 .atHl)

/-- RES 3,A (R274). -/
def execRes3A (s : State) : Result := .next (s.resetBit 3 (.reg .a))

/-- RES 4,B (R274). -/
def execRes4B (s : State) : Result := .next (s.resetBit 4 (.reg .b))

/-- RES 4,C (R274). -/
def execRes4C (s : State) : Result := .next (s.resetBit 4 (.reg .c))

/-- RES 4,D (R274). -/
def execRes4D (s : State) : Result := .next (s.resetBit 4 (.reg .d))

/-- RES 4,E (R274). -/
def execRes4E (s : State) : Result := .next (s.resetBit 4 (.reg .e))

/-- RES 4,H (R274). -/
def execRes4H (s : State) : Result := .next (s.resetBit 4 (.reg .h))

/-- RES 4,L (R274). -/
def execRes4L (s : State) : Result := .next (s.resetBit 4 (.reg .l))

/-- RES 4,(HL) (R274). -/
def execRes4AtHl (s : State) : Result := .next (s.resetBit 4 .atHl)

/-- RES 4,A (R274). -/
def execRes4A (s : State) : Result := .next (s.resetBit 4 (.reg .a))

/-- RES 5,B (R274). -/
def execRes5B (s : State) : Result := .next (s.resetBit 5 (.reg .b))

/-- RES 5,C (R274). -/
def execRes5C (s : State) : Result := .next (s.resetBit 5 (.reg .c))

/-- RES 5,D (R274). -/
def execRes5D (s : State) : Result := .next (s.resetBit 5 (.reg .d))

/-- RES 5,E (R274). -/
def execRes5E (s : State) : Result := .next (s.resetBit 5 (.reg .e))

/-- RES 5,H (R274). -/
def execRes5H (s : State) : Result := .next (s.resetBit 5 (.reg .h))

/-- RES 5,L (R274). -/
def execRes5L (s : State) : Result := .next (s.resetBit 5 (.reg .l))

/-- RES 5,(HL) (R274). -/
def execRes5AtHl (s : State) : Result := .next (s.resetBit 5 .atHl)

/-- RES 5,A (R274). -/
def execRes5A (s : State) : Result := .next (s.resetBit 5 (.reg .a))

/-- RES 6,B (R274). -/
def execRes6B (s : State) : Result := .next (s.resetBit 6 (.reg .b))

/-- RES 6,C (R274). -/
def execRes6C (s : State) : Result := .next (s.resetBit 6 (.reg .c))

/-- RES 6,D (R274). -/
def execRes6D (s : State) : Result := .next (s.resetBit 6 (.reg .d))

/-- RES 6,E (R274). -/
def execRes6E (s : State) : Result := .next (s.resetBit 6 (.reg .e))

/-- RES 6,H (R274). -/
def execRes6H (s : State) : Result := .next (s.resetBit 6 (.reg .h))

/-- RES 6,L (R274). -/
def execRes6L (s : State) : Result := .next (s.resetBit 6 (.reg .l))

/-- RES 6,(HL) (R274). -/
def execRes6AtHl (s : State) : Result := .next (s.resetBit 6 .atHl)

/-- RES 6,A (R274). -/
def execRes6A (s : State) : Result := .next (s.resetBit 6 (.reg .a))

/-- RES 7,B (R274). -/
def execRes7B (s : State) : Result := .next (s.resetBit 7 (.reg .b))

/-- RES 7,C (R274). -/
def execRes7C (s : State) : Result := .next (s.resetBit 7 (.reg .c))

/-- RES 7,D (R274). -/
def execRes7D (s : State) : Result := .next (s.resetBit 7 (.reg .d))

/-- RES 7,E (R274). -/
def execRes7E (s : State) : Result := .next (s.resetBit 7 (.reg .e))

/-- RES 7,H (R274). -/
def execRes7H (s : State) : Result := .next (s.resetBit 7 (.reg .h))

/-- RES 7,L (R274). -/
def execRes7L (s : State) : Result := .next (s.resetBit 7 (.reg .l))

/-- RES 7,(HL) (R274). -/
def execRes7AtHl (s : State) : Result := .next (s.resetBit 7 .atHl)

/-- RES 7,A (R274). -/
def execRes7A (s : State) : Result := .next (s.resetBit 7 (.reg .a))

/-- SET 0,B (R275). -/
def execSet0B (s : State) : Result := .next (s.assignBit 0 (.reg .b))

/-- SET 0,C (R275). -/
def execSet0C (s : State) : Result := .next (s.assignBit 0 (.reg .c))

/-- SET 0,D (R275). -/
def execSet0D (s : State) : Result := .next (s.assignBit 0 (.reg .d))

/-- SET 0,E (R275). -/
def execSet0E (s : State) : Result := .next (s.assignBit 0 (.reg .e))

/-- SET 0,H (R275). -/
def execSet0H (s : State) : Result := .next (s.assignBit 0 (.reg .h))

/-- SET 0,L (R275). -/
def execSet0L (s : State) : Result := .next (s.assignBit 0 (.reg .l))

/-- SET 0,(HL) (R275). -/
def execSet0AtHl (s : State) : Result := .next (s.assignBit 0 .atHl)

/-- SET 0,A (R275). -/
def execSet0A (s : State) : Result := .next (s.assignBit 0 (.reg .a))

/-- SET 1,B (R275). -/
def execSet1B (s : State) : Result := .next (s.assignBit 1 (.reg .b))

/-- SET 1,C (R275). -/
def execSet1C (s : State) : Result := .next (s.assignBit 1 (.reg .c))

/-- SET 1,D (R275). -/
def execSet1D (s : State) : Result := .next (s.assignBit 1 (.reg .d))

/-- SET 1,E (R275). -/
def execSet1E (s : State) : Result := .next (s.assignBit 1 (.reg .e))

/-- SET 1,H (R275). -/
def execSet1H (s : State) : Result := .next (s.assignBit 1 (.reg .h))

/-- SET 1,L (R275). -/
def execSet1L (s : State) : Result := .next (s.assignBit 1 (.reg .l))

/-- SET 1,(HL) (R275). -/
def execSet1AtHl (s : State) : Result := .next (s.assignBit 1 .atHl)

/-- SET 1,A (R275). -/
def execSet1A (s : State) : Result := .next (s.assignBit 1 (.reg .a))

/-- SET 2,B (R275). -/
def execSet2B (s : State) : Result := .next (s.assignBit 2 (.reg .b))

/-- SET 2,C (R275). -/
def execSet2C (s : State) : Result := .next (s.assignBit 2 (.reg .c))

/-- SET 2,D (R275). -/
def execSet2D (s : State) : Result := .next (s.assignBit 2 (.reg .d))

/-- SET 2,E (R275). -/
def execSet2E (s : State) : Result := .next (s.assignBit 2 (.reg .e))

/-- SET 2,H (R275). -/
def execSet2H (s : State) : Result := .next (s.assignBit 2 (.reg .h))

/-- SET 2,L (R275). -/
def execSet2L (s : State) : Result := .next (s.assignBit 2 (.reg .l))

/-- SET 2,(HL) (R275). -/
def execSet2AtHl (s : State) : Result := .next (s.assignBit 2 .atHl)

/-- SET 2,A (R275). -/
def execSet2A (s : State) : Result := .next (s.assignBit 2 (.reg .a))

/-- SET 3,B (R275). -/
def execSet3B (s : State) : Result := .next (s.assignBit 3 (.reg .b))

/-- SET 3,C (R275). -/
def execSet3C (s : State) : Result := .next (s.assignBit 3 (.reg .c))

/-- SET 3,D (R275). -/
def execSet3D (s : State) : Result := .next (s.assignBit 3 (.reg .d))

/-- SET 3,E (R275). -/
def execSet3E (s : State) : Result := .next (s.assignBit 3 (.reg .e))

/-- SET 3,H (R275). -/
def execSet3H (s : State) : Result := .next (s.assignBit 3 (.reg .h))

/-- SET 3,L (R275). -/
def execSet3L (s : State) : Result := .next (s.assignBit 3 (.reg .l))

/-- SET 3,(HL) (R275). -/
def execSet3AtHl (s : State) : Result := .next (s.assignBit 3 .atHl)

/-- SET 3,A (R275). -/
def execSet3A (s : State) : Result := .next (s.assignBit 3 (.reg .a))

/-- SET 4,B (R275). -/
def execSet4B (s : State) : Result := .next (s.assignBit 4 (.reg .b))

/-- SET 4,C (R275). -/
def execSet4C (s : State) : Result := .next (s.assignBit 4 (.reg .c))

/-- SET 4,D (R275). -/
def execSet4D (s : State) : Result := .next (s.assignBit 4 (.reg .d))

/-- SET 4,E (R275). -/
def execSet4E (s : State) : Result := .next (s.assignBit 4 (.reg .e))

/-- SET 4,H (R275). -/
def execSet4H (s : State) : Result := .next (s.assignBit 4 (.reg .h))

/-- SET 4,L (R275). -/
def execSet4L (s : State) : Result := .next (s.assignBit 4 (.reg .l))

/-- SET 4,(HL) (R275). -/
def execSet4AtHl (s : State) : Result := .next (s.assignBit 4 .atHl)

/-- SET 4,A (R275). -/
def execSet4A (s : State) : Result := .next (s.assignBit 4 (.reg .a))

/-- SET 5,B (R275). -/
def execSet5B (s : State) : Result := .next (s.assignBit 5 (.reg .b))

/-- SET 5,C (R275). -/
def execSet5C (s : State) : Result := .next (s.assignBit 5 (.reg .c))

/-- SET 5,D (R275). -/
def execSet5D (s : State) : Result := .next (s.assignBit 5 (.reg .d))

/-- SET 5,E (R275). -/
def execSet5E (s : State) : Result := .next (s.assignBit 5 (.reg .e))

/-- SET 5,H (R275). -/
def execSet5H (s : State) : Result := .next (s.assignBit 5 (.reg .h))

/-- SET 5,L (R275). -/
def execSet5L (s : State) : Result := .next (s.assignBit 5 (.reg .l))

/-- SET 5,(HL) (R275). -/
def execSet5AtHl (s : State) : Result := .next (s.assignBit 5 .atHl)

/-- SET 5,A (R275). -/
def execSet5A (s : State) : Result := .next (s.assignBit 5 (.reg .a))

/-- SET 6,B (R275). -/
def execSet6B (s : State) : Result := .next (s.assignBit 6 (.reg .b))

/-- SET 6,C (R275). -/
def execSet6C (s : State) : Result := .next (s.assignBit 6 (.reg .c))

/-- SET 6,D (R275). -/
def execSet6D (s : State) : Result := .next (s.assignBit 6 (.reg .d))

/-- SET 6,E (R275). -/
def execSet6E (s : State) : Result := .next (s.assignBit 6 (.reg .e))

/-- SET 6,H (R275). -/
def execSet6H (s : State) : Result := .next (s.assignBit 6 (.reg .h))

/-- SET 6,L (R275). -/
def execSet6L (s : State) : Result := .next (s.assignBit 6 (.reg .l))

/-- SET 6,(HL) (R275). -/
def execSet6AtHl (s : State) : Result := .next (s.assignBit 6 .atHl)

/-- SET 6,A (R275). -/
def execSet6A (s : State) : Result := .next (s.assignBit 6 (.reg .a))

/-- SET 7,B (R275). -/
def execSet7B (s : State) : Result := .next (s.assignBit 7 (.reg .b))

/-- SET 7,C (R275). -/
def execSet7C (s : State) : Result := .next (s.assignBit 7 (.reg .c))

/-- SET 7,D (R275). -/
def execSet7D (s : State) : Result := .next (s.assignBit 7 (.reg .d))

/-- SET 7,E (R275). -/
def execSet7E (s : State) : Result := .next (s.assignBit 7 (.reg .e))

/-- SET 7,H (R275). -/
def execSet7H (s : State) : Result := .next (s.assignBit 7 (.reg .h))

/-- SET 7,L (R275). -/
def execSet7L (s : State) : Result := .next (s.assignBit 7 (.reg .l))

/-- SET 7,(HL) (R275). -/
def execSet7AtHl (s : State) : Result := .next (s.assignBit 7 .atHl)

/-- SET 7,A (R275). -/
def execSet7A (s : State) : Result := .next (s.assignBit 7 (.reg .a))

end Sys2Proof.Machine
end

