-- ==== Sys2Proof/Machine/Control.lean ====
section
/-! DEFINITION. The control transfers (44_control.md R300 to R311). Each instruction has a definition of its own over the shared operations; the state it is
given has PC = pc0, the address of its opcode. -/

namespace Sys2Proof.Machine

/-! ### Shared operations -/

/-- JP cc,nn (R302). -/
def State.jumpIf (s : State) (cc : Cond) (target : Word) : State :=
  if condHolds s.regs.f cc then s.jump target 16 else s.retire 3 12

/-- The target of a relative jump whose opcode is at `pc0`: `pc0 + 2 + sext_16(e)` (R304). -/
def relativeTarget (pc0 : Word) (e : Byte) : Word := pc0 + 2 + sext16 e

/-- JR cc,e (R305). -/
def State.jumpRelativeIf (s : State) (cc : Cond) (e : Byte) : State :=
  if condHolds s.regs.f cc then s.jump (relativeTarget s.regs.pc e) 12 else s.retire 2 8

/-- CALL nn (R306): the return address is pc0 + 3. -/
def State.call (s : State) (target : Word) : State := (s.push16 (s.regs.pc + 3)).jump target 24

/-- CALL cc,nn (R307). -/
def State.callIf (s : State) (cc : Cond) (target : Word) : State :=
  if condHolds s.regs.f cc then s.call target else s.retire 3 12

/-- RET (R308), and RET cc when it is taken (R309). -/
def State.returnWith (s : State) (cycles : Nat) : State := s.pop16.2.jump s.pop16.1 cycles

/-- RET cc (R309). -/
def State.returnIf (s : State) (cc : Cond) : State :=
  if condHolds s.regs.f cc then s.returnWith 20 else s.retire 1 8

/-- RST t with t = 8 * y (R311): the return address is pc0 + 1. -/
def State.restart (s : State) (y : Fin 8) : State :=
  (s.push16 (s.regs.pc + 1)).jump (8 * BitVec.ofNat 16 y.val) 16

/-! ### The instructions -/

/-- JR e (R304). -/
def execJrE (e : Byte) (s : State) : Result := .next (s.jump (relativeTarget s.regs.pc e) 12)

/-- JR NZ,e (R305). -/
def execJrNzE (e : Byte) (s : State) : Result := .next (s.jumpRelativeIf .nz e)

/-- JR Z,e (R305). -/
def execJrZE (e : Byte) (s : State) : Result := .next (s.jumpRelativeIf .z e)

/-- JR NC,e (R305). -/
def execJrNcE (e : Byte) (s : State) : Result := .next (s.jumpRelativeIf .nc e)

/-- JR C,e (R305). -/
def execJrCE (e : Byte) (s : State) : Result := .next (s.jumpRelativeIf .c e)

/-- RET NZ (R309). -/
def execRetNz (s : State) : Result := .next (s.returnIf .nz)

/-- JP NZ,nn (R302). -/
def execJpNzNn (nn : Word) (s : State) : Result := .next (s.jumpIf .nz nn)

/-- JP nn (R301). -/
def execJpNn (nn : Word) (s : State) : Result := .next (s.jump nn 16)

/-- CALL NZ,nn (R307). -/
def execCallNzNn (nn : Word) (s : State) : Result := .next (s.callIf .nz nn)

/-- RST 00h (R311). -/
def execRst00 (s : State) : Result := .next (s.restart 0)

/-- RET Z (R309). -/
def execRetZ (s : State) : Result := .next (s.returnIf .z)

/-- RET (R308). -/
def execRet (s : State) : Result := .next (s.returnWith 16)

/-- JP Z,nn (R302). -/
def execJpZNn (nn : Word) (s : State) : Result := .next (s.jumpIf .z nn)

/-- CALL Z,nn (R307). -/
def execCallZNn (nn : Word) (s : State) : Result := .next (s.callIf .z nn)

/-- CALL nn (R306). -/
def execCallNn (nn : Word) (s : State) : Result := .next (s.call nn)

/-- RST 08h (R311). -/
def execRst08 (s : State) : Result := .next (s.restart 1)

/-- RET NC (R309). -/
def execRetNc (s : State) : Result := .next (s.returnIf .nc)

/-- JP NC,nn (R302). -/
def execJpNcNn (nn : Word) (s : State) : Result := .next (s.jumpIf .nc nn)

/-- CALL NC,nn (R307). -/
def execCallNcNn (nn : Word) (s : State) : Result := .next (s.callIf .nc nn)

/-- RST 10h (R311). -/
def execRst10 (s : State) : Result := .next (s.restart 2)

/-- RET C (R309). -/
def execRetC (s : State) : Result := .next (s.returnIf .c)

/-- RETI (R310). -/
def execReti (s : State) : Result := .next (s.returnFromInterrupt.spend 16)

/-- JP C,nn (R302). -/
def execJpCNn (nn : Word) (s : State) : Result := .next (s.jumpIf .c nn)

/-- CALL C,nn (R307). -/
def execCallCNn (nn : Word) (s : State) : Result := .next (s.callIf .c nn)

/-- RST 18h (R311). -/
def execRst18 (s : State) : Result := .next (s.restart 3)

/-- RST 20h (R311). -/
def execRst20 (s : State) : Result := .next (s.restart 4)

/-- JP HL (R303). -/
def execJpHl (s : State) : Result := .next (s.jump s.hl 4)

/-- RST 28h (R311). -/
def execRst28 (s : State) : Result := .next (s.restart 5)

/-- RST 30h (R311). -/
def execRst30 (s : State) : Result := .next (s.restart 6)

/-- RST 38h (R311). -/
def execRst38 (s : State) : Result := .next (s.restart 7)

end Sys2Proof.Machine
end

