-- ==== Sys2Proof/Machine/Loads.lean ====
section
/-! DEFINITION. The loads, stores and stack instructions (40_loads.md R151 to R175). Each instruction has a definition of its own over the shared operations; the state it is
given has PC = pc0, the address of its opcode. -/

namespace Sys2Proof.Machine

/-! ### Shared operations -/

/-- `r <- r'` between registers (R151). -/
def State.moveReg8 (s : State) (dst src : Reg8) : State := (s.setReg8 dst (s.reg8 src)).retire 1 4

/-- `r <- MemRead(a)`, by an instruction of the given length and cost (R152, R156, R157, R160, R162, R163, R166, R168). -/
def State.load8 (s : State) (dst : Reg8) (a : Word) (length : Word) (cycles : Nat) : State :=
  ((s.afterRead a).setReg8 dst (s.readByte a)).retire length cycles

/-- `MemWrite(a, v)`, by an instruction of the given length and cost (R153, R155, R158, R159, R161, R164, R165, R167, R169). -/
def State.store8 (s : State) (a : Word) (v : Byte) (length : Word) (cycles : Nat) : State :=
  (s.writeByte a v).retire length cycles

/-- `MemWrite(a, v[7:0]); MemWrite(a + 1, v[15:8])` (R63, R171). -/
def State.storeWord (s : State) (a v : Word) (length : Word) (cycles : Nat) : State :=
  ((s.writeByte a (loByte v)).writeByte (a + 1) (hiByte v)).retire length cycles

/-- POP rr (R174). -/
def State.popReg (s : State) (r : StackReg) : State :=
  (s.pop16.2.setStackReg r s.pop16.1).retire 1 12

/-! ### The instructions -/

/-- LD BC,nn (R170). -/
def execLdBcNn (nn : Word) (s : State) : Result := .next ((s.setReg16 .bc nn).retire 3 12)

/-- LD (BC),A (R158). -/
def execLdAtBcA (s : State) : Result := .next (s.store8 s.bc s.regs.a 1 8)

/-- LD B,n (R154). -/
def execLdBN (n : Byte) (s : State) : Result := .next ((s.setReg8 .b n).retire 2 8)

/-- LD (nn),SP (R171). -/
def execLdAtNnSp (nn : Word) (s : State) : Result := .next (s.storeWord nn s.regs.sp 3 20)

/-- LD A,(BC) (R156). -/
def execLdAAtBc (s : State) : Result := .next (s.load8 .a s.bc 1 8)

/-- LD C,n (R154). -/
def execLdCN (n : Byte) (s : State) : Result := .next ((s.setReg8 .c n).retire 2 8)

/-- LD DE,nn (R170). -/
def execLdDeNn (nn : Word) (s : State) : Result := .next ((s.setReg16 .de nn).retire 3 12)

/-- LD (DE),A (R159). -/
def execLdAtDeA (s : State) : Result := .next (s.store8 s.de s.regs.a 1 8)

/-- LD D,n (R154). -/
def execLdDN (n : Byte) (s : State) : Result := .next ((s.setReg8 .d n).retire 2 8)

/-- LD A,(DE) (R157). -/
def execLdAAtDe (s : State) : Result := .next (s.load8 .a s.de 1 8)

/-- LD E,n (R154). -/
def execLdEN (n : Byte) (s : State) : Result := .next ((s.setReg8 .e n).retire 2 8)

/-- LD HL,nn (R170). -/
def execLdHlNn (nn : Word) (s : State) : Result := .next ((s.setReg16 .hl nn).retire 3 12)

/-- LD (HL+),A (R164). -/
def execLdAtHlIncA (s : State) : Result := .next ((s.store8 s.hl s.regs.a 1 8).setHl (s.hl + 1))

/-- LD H,n (R154). -/
def execLdHN (n : Byte) (s : State) : Result := .next ((s.setReg8 .h n).retire 2 8)

/-- LD A,(HL+) (R162). -/
def execLdAAtHlInc (s : State) : Result := .next ((s.load8 .a s.hl 1 8).setHl (s.hl + 1))

/-- LD L,n (R154). -/
def execLdLN (n : Byte) (s : State) : Result := .next ((s.setReg8 .l n).retire 2 8)

/-- LD SP,nn (R170). -/
def execLdSpNn (nn : Word) (s : State) : Result := .next ((s.setReg16 .sp nn).retire 3 12)

/-- LD (HL-),A (R165). -/
def execLdAtHlDecA (s : State) : Result := .next ((s.store8 s.hl s.regs.a 1 8).setHl (s.hl - 1))

/-- LD (HL),n (R155). -/
def execLdAtHlN (n : Byte) (s : State) : Result := .next (s.store8 s.hl n 2 12)

/-- LD A,(HL-) (R163). -/
def execLdAAtHlDec (s : State) : Result := .next ((s.load8 .a s.hl 1 8).setHl (s.hl - 1))

/-- LD A,n (R154). -/
def execLdAN (n : Byte) (s : State) : Result := .next ((s.setReg8 .a n).retire 2 8)

/-- LD B,B (R151). -/
def execLdBB (s : State) : Result := .next (s.moveReg8 .b .b)

/-- LD B,C (R151). -/
def execLdBC (s : State) : Result := .next (s.moveReg8 .b .c)

/-- LD B,D (R151). -/
def execLdBD (s : State) : Result := .next (s.moveReg8 .b .d)

/-- LD B,E (R151). -/
def execLdBE (s : State) : Result := .next (s.moveReg8 .b .e)

/-- LD B,H (R151). -/
def execLdBH (s : State) : Result := .next (s.moveReg8 .b .h)

/-- LD B,L (R151). -/
def execLdBL (s : State) : Result := .next (s.moveReg8 .b .l)

/-- LD B,(HL) (R152). -/
def execLdBAtHl (s : State) : Result := .next (s.load8 .b s.hl 1 8)

/-- LD B,A (R151). -/
def execLdBA (s : State) : Result := .next (s.moveReg8 .b .a)

/-- LD C,B (R151). -/
def execLdCB (s : State) : Result := .next (s.moveReg8 .c .b)

/-- LD C,C (R151). -/
def execLdCC (s : State) : Result := .next (s.moveReg8 .c .c)

/-- LD C,D (R151). -/
def execLdCD (s : State) : Result := .next (s.moveReg8 .c .d)

/-- LD C,E (R151). -/
def execLdCE (s : State) : Result := .next (s.moveReg8 .c .e)

/-- LD C,H (R151). -/
def execLdCH (s : State) : Result := .next (s.moveReg8 .c .h)

/-- LD C,L (R151). -/
def execLdCL (s : State) : Result := .next (s.moveReg8 .c .l)

/-- LD C,(HL) (R152). -/
def execLdCAtHl (s : State) : Result := .next (s.load8 .c s.hl 1 8)

/-- LD C,A (R151). -/
def execLdCA (s : State) : Result := .next (s.moveReg8 .c .a)

/-- LD D,B (R151). -/
def execLdDB (s : State) : Result := .next (s.moveReg8 .d .b)

/-- LD D,C (R151). -/
def execLdDC (s : State) : Result := .next (s.moveReg8 .d .c)

/-- LD D,D (R151). -/
def execLdDD (s : State) : Result := .next (s.moveReg8 .d .d)

/-- LD D,E (R151). -/
def execLdDE (s : State) : Result := .next (s.moveReg8 .d .e)

/-- LD D,H (R151). -/
def execLdDH (s : State) : Result := .next (s.moveReg8 .d .h)

/-- LD D,L (R151). -/
def execLdDL (s : State) : Result := .next (s.moveReg8 .d .l)

/-- LD D,(HL) (R152). -/
def execLdDAtHl (s : State) : Result := .next (s.load8 .d s.hl 1 8)

/-- LD D,A (R151). -/
def execLdDA (s : State) : Result := .next (s.moveReg8 .d .a)

/-- LD E,B (R151). -/
def execLdEB (s : State) : Result := .next (s.moveReg8 .e .b)

/-- LD E,C (R151). -/
def execLdEC (s : State) : Result := .next (s.moveReg8 .e .c)

/-- LD E,D (R151). -/
def execLdED (s : State) : Result := .next (s.moveReg8 .e .d)

/-- LD E,E (R151). -/
def execLdEE (s : State) : Result := .next (s.moveReg8 .e .e)

/-- LD E,H (R151). -/
def execLdEH (s : State) : Result := .next (s.moveReg8 .e .h)

/-- LD E,L (R151). -/
def execLdEL (s : State) : Result := .next (s.moveReg8 .e .l)

/-- LD E,(HL) (R152). -/
def execLdEAtHl (s : State) : Result := .next (s.load8 .e s.hl 1 8)

/-- LD E,A (R151). -/
def execLdEA (s : State) : Result := .next (s.moveReg8 .e .a)

/-- LD H,B (R151). -/
def execLdHB (s : State) : Result := .next (s.moveReg8 .h .b)

/-- LD H,C (R151). -/
def execLdHC (s : State) : Result := .next (s.moveReg8 .h .c)

/-- LD H,D (R151). -/
def execLdHD (s : State) : Result := .next (s.moveReg8 .h .d)

/-- LD H,E (R151). -/
def execLdHE (s : State) : Result := .next (s.moveReg8 .h .e)

/-- LD H,H (R151). -/
def execLdHH (s : State) : Result := .next (s.moveReg8 .h .h)

/-- LD H,L (R151). -/
def execLdHL (s : State) : Result := .next (s.moveReg8 .h .l)

/-- LD H,(HL) (R152). -/
def execLdHAtHl (s : State) : Result := .next (s.load8 .h s.hl 1 8)

/-- LD H,A (R151). -/
def execLdHA (s : State) : Result := .next (s.moveReg8 .h .a)

/-- LD L,B (R151). -/
def execLdLB (s : State) : Result := .next (s.moveReg8 .l .b)

/-- LD L,C (R151). -/
def execLdLC (s : State) : Result := .next (s.moveReg8 .l .c)

/-- LD L,D (R151). -/
def execLdLD (s : State) : Result := .next (s.moveReg8 .l .d)

/-- LD L,E (R151). -/
def execLdLE (s : State) : Result := .next (s.moveReg8 .l .e)

/-- LD L,H (R151). -/
def execLdLH (s : State) : Result := .next (s.moveReg8 .l .h)

/-- LD L,L (R151). -/
def execLdLL (s : State) : Result := .next (s.moveReg8 .l .l)

/-- LD L,(HL) (R152). -/
def execLdLAtHl (s : State) : Result := .next (s.load8 .l s.hl 1 8)

/-- LD L,A (R151). -/
def execLdLA (s : State) : Result := .next (s.moveReg8 .l .a)

/-- LD (HL),B (R153). -/
def execLdAtHlB (s : State) : Result := .next (s.store8 s.hl (s.reg8 .b) 1 8)

/-- LD (HL),C (R153). -/
def execLdAtHlC (s : State) : Result := .next (s.store8 s.hl (s.reg8 .c) 1 8)

/-- LD (HL),D (R153). -/
def execLdAtHlD (s : State) : Result := .next (s.store8 s.hl (s.reg8 .d) 1 8)

/-- LD (HL),E (R153). -/
def execLdAtHlE (s : State) : Result := .next (s.store8 s.hl (s.reg8 .e) 1 8)

/-- LD (HL),H (R153). -/
def execLdAtHlH (s : State) : Result := .next (s.store8 s.hl (s.reg8 .h) 1 8)

/-- LD (HL),L (R153). -/
def execLdAtHlL (s : State) : Result := .next (s.store8 s.hl (s.reg8 .l) 1 8)

/-- LD (HL),A (R153). -/
def execLdAtHlA (s : State) : Result := .next (s.store8 s.hl (s.reg8 .a) 1 8)

/-- LD A,B (R151). -/
def execLdAB (s : State) : Result := .next (s.moveReg8 .a .b)

/-- LD A,C (R151). -/
def execLdAC (s : State) : Result := .next (s.moveReg8 .a .c)

/-- LD A,D (R151). -/
def execLdAD (s : State) : Result := .next (s.moveReg8 .a .d)

/-- LD A,E (R151). -/
def execLdAE (s : State) : Result := .next (s.moveReg8 .a .e)

/-- LD A,H (R151). -/
def execLdAH (s : State) : Result := .next (s.moveReg8 .a .h)

/-- LD A,L (R151). -/
def execLdAL (s : State) : Result := .next (s.moveReg8 .a .l)

/-- LD A,(HL) (R152). -/
def execLdAAtHl (s : State) : Result := .next (s.load8 .a s.hl 1 8)

/-- LD A,A (R151). -/
def execLdAA (s : State) : Result := .next (s.moveReg8 .a .a)

/-- POP BC (R174). -/
def execPopBc (s : State) : Result := .next (s.popReg .bc)

/-- PUSH BC (R173). -/
def execPushBc (s : State) : Result := .next ((s.push16 (s.stackReg .bc)).retire 1 16)

/-- POP DE (R174). -/
def execPopDe (s : State) : Result := .next (s.popReg .de)

/-- PUSH DE (R173). -/
def execPushDe (s : State) : Result := .next ((s.push16 (s.stackReg .de)).retire 1 16)

/-- LDH (n),A (R167). -/
def execLdhAtNA (n : Byte) (s : State) : Result := .next (s.store8 (highPage n) s.regs.a 2 12)

/-- POP HL (R174). -/
def execPopHl (s : State) : Result := .next (s.popReg .hl)

/-- LDH (C),A (R169). -/
def execLdhAtCA (s : State) : Result := .next (s.store8 (highPage s.regs.c) s.regs.a 1 8)

/-- PUSH HL (R173). -/
def execPushHl (s : State) : Result := .next ((s.push16 (s.stackReg .hl)).retire 1 16)

/-- LD (nn),A (R161). -/
def execLdAtNnA (nn : Word) (s : State) : Result := .next (s.store8 nn s.regs.a 3 16)

/-- LDH A,(n) (R166). -/
def execLdhAAtN (n : Byte) (s : State) : Result := .next (s.load8 .a (highPage n) 2 12)

/-- POP AF (R174). -/
def execPopAf (s : State) : Result := .next (s.popReg .af)

/-- LDH A,(C) (R168). -/
def execLdhAAtC (s : State) : Result := .next (s.load8 .a (highPage s.regs.c) 1 8)

/-- PUSH AF (R173). -/
def execPushAf (s : State) : Result := .next ((s.push16 (s.stackReg .af)).retire 1 16)

/-- LD HL,SP+e (R175). -/
def execLdHlSpE (e : Byte) (s : State) : Result :=
  .next (((s.setHl (addOffset s.regs.sp e).1).setF (addOffset s.regs.sp e).2).retire 2 12)

/-- LD SP,HL (R172). -/
def execLdSpHl (s : State) : Result := .next ((s.setSp s.hl).retire 1 8)

/-- LD A,(nn) (R160). -/
def execLdAAtNn (nn : Word) (s : State) : Result := .next (s.load8 .a nn 3 16)

end Sys2Proof.Machine
end

