-- ==== Sys2Proof/Machine/Rotates.lean ====
section
/-! DEFINITION. The rotates and shifts: the four of A in the base table, and the CB ones (43_rotate_shift_bit.md R260 to R272). Each instruction has a definition of its own over the shared operations; the state it is
given has PC = pc0, the address of its opcode. -/

namespace Sys2Proof.Machine

/-! ### Shared operations -/

/-- RLCA, RRCA, RLA, RRA (R260 to R263): the rotate of the same name on A, with Z = 0. -/
def State.rotateAcc (s : State) (op : RotOp) : State :=
  ((s.setA (rotate op s.regs.a s.regs.f.c).1).setF (rotateAccFlags (rotate op s.regs.a s.regs.f.c).2)).retire 1 4

/-- A CB rotate or shift (R264 to R272): the operand is read once, and written once with the result. -/
def State.rotateOperand (s : State) (op : RotOp) (o : Operand8) : State :=
  let (v, s1) := s.readOperand o
  let (r, c) := rotate op v s.regs.f.c
  ((s1.writeOperand o r).setF (rotateFlags r c)).retire 2 (operandCost o 8 16)

/-! ### The instructions -/

/-- RLCA (R260). -/
def execRlcAcc (s : State) : Result := .next (s.rotateAcc .rlc)

/-- RRCA (R261). -/
def execRrcAcc (s : State) : Result := .next (s.rotateAcc .rrc)

/-- RLA (R262). -/
def execRlAcc (s : State) : Result := .next (s.rotateAcc .rl)

/-- RRA (R263). -/
def execRrAcc (s : State) : Result := .next (s.rotateAcc .rr)

/-- RLC B (R265). -/
def execRlcB (s : State) : Result := .next (s.rotateOperand .rlc (.reg .b))

/-- RLC C (R265). -/
def execRlcC (s : State) : Result := .next (s.rotateOperand .rlc (.reg .c))

/-- RLC D (R265). -/
def execRlcD (s : State) : Result := .next (s.rotateOperand .rlc (.reg .d))

/-- RLC E (R265). -/
def execRlcE (s : State) : Result := .next (s.rotateOperand .rlc (.reg .e))

/-- RLC H (R265). -/
def execRlcH (s : State) : Result := .next (s.rotateOperand .rlc (.reg .h))

/-- RLC L (R265). -/
def execRlcL (s : State) : Result := .next (s.rotateOperand .rlc (.reg .l))

/-- RLC (HL) (R265). -/
def execRlcAtHl (s : State) : Result := .next (s.rotateOperand .rlc .atHl)

/-- RLC A (R265). -/
def execRlcA (s : State) : Result := .next (s.rotateOperand .rlc (.reg .a))

/-- RRC B (R266). -/
def execRrcB (s : State) : Result := .next (s.rotateOperand .rrc (.reg .b))

/-- RRC C (R266). -/
def execRrcC (s : State) : Result := .next (s.rotateOperand .rrc (.reg .c))

/-- RRC D (R266). -/
def execRrcD (s : State) : Result := .next (s.rotateOperand .rrc (.reg .d))

/-- RRC E (R266). -/
def execRrcE (s : State) : Result := .next (s.rotateOperand .rrc (.reg .e))

/-- RRC H (R266). -/
def execRrcH (s : State) : Result := .next (s.rotateOperand .rrc (.reg .h))

/-- RRC L (R266). -/
def execRrcL (s : State) : Result := .next (s.rotateOperand .rrc (.reg .l))

/-- RRC (HL) (R266). -/
def execRrcAtHl (s : State) : Result := .next (s.rotateOperand .rrc .atHl)

/-- RRC A (R266). -/
def execRrcA (s : State) : Result := .next (s.rotateOperand .rrc (.reg .a))

/-- RL B (R267). -/
def execRlB (s : State) : Result := .next (s.rotateOperand .rl (.reg .b))

/-- RL C (R267). -/
def execRlC (s : State) : Result := .next (s.rotateOperand .rl (.reg .c))

/-- RL D (R267). -/
def execRlD (s : State) : Result := .next (s.rotateOperand .rl (.reg .d))

/-- RL E (R267). -/
def execRlE (s : State) : Result := .next (s.rotateOperand .rl (.reg .e))

/-- RL H (R267). -/
def execRlH (s : State) : Result := .next (s.rotateOperand .rl (.reg .h))

/-- RL L (R267). -/
def execRlL (s : State) : Result := .next (s.rotateOperand .rl (.reg .l))

/-- RL (HL) (R267). -/
def execRlAtHl (s : State) : Result := .next (s.rotateOperand .rl .atHl)

/-- RL A (R267). -/
def execRlA (s : State) : Result := .next (s.rotateOperand .rl (.reg .a))

/-- RR B (R268). -/
def execRrB (s : State) : Result := .next (s.rotateOperand .rr (.reg .b))

/-- RR C (R268). -/
def execRrC (s : State) : Result := .next (s.rotateOperand .rr (.reg .c))

/-- RR D (R268). -/
def execRrD (s : State) : Result := .next (s.rotateOperand .rr (.reg .d))

/-- RR E (R268). -/
def execRrE (s : State) : Result := .next (s.rotateOperand .rr (.reg .e))

/-- RR H (R268). -/
def execRrH (s : State) : Result := .next (s.rotateOperand .rr (.reg .h))

/-- RR L (R268). -/
def execRrL (s : State) : Result := .next (s.rotateOperand .rr (.reg .l))

/-- RR (HL) (R268). -/
def execRrAtHl (s : State) : Result := .next (s.rotateOperand .rr .atHl)

/-- RR A (R268). -/
def execRrA (s : State) : Result := .next (s.rotateOperand .rr (.reg .a))

/-- SLA B (R269). -/
def execSlaB (s : State) : Result := .next (s.rotateOperand .sla (.reg .b))

/-- SLA C (R269). -/
def execSlaC (s : State) : Result := .next (s.rotateOperand .sla (.reg .c))

/-- SLA D (R269). -/
def execSlaD (s : State) : Result := .next (s.rotateOperand .sla (.reg .d))

/-- SLA E (R269). -/
def execSlaE (s : State) : Result := .next (s.rotateOperand .sla (.reg .e))

/-- SLA H (R269). -/
def execSlaH (s : State) : Result := .next (s.rotateOperand .sla (.reg .h))

/-- SLA L (R269). -/
def execSlaL (s : State) : Result := .next (s.rotateOperand .sla (.reg .l))

/-- SLA (HL) (R269). -/
def execSlaAtHl (s : State) : Result := .next (s.rotateOperand .sla .atHl)

/-- SLA A (R269). -/
def execSlaA (s : State) : Result := .next (s.rotateOperand .sla (.reg .a))

/-- SRA B (R270). -/
def execSraB (s : State) : Result := .next (s.rotateOperand .sra (.reg .b))

/-- SRA C (R270). -/
def execSraC (s : State) : Result := .next (s.rotateOperand .sra (.reg .c))

/-- SRA D (R270). -/
def execSraD (s : State) : Result := .next (s.rotateOperand .sra (.reg .d))

/-- SRA E (R270). -/
def execSraE (s : State) : Result := .next (s.rotateOperand .sra (.reg .e))

/-- SRA H (R270). -/
def execSraH (s : State) : Result := .next (s.rotateOperand .sra (.reg .h))

/-- SRA L (R270). -/
def execSraL (s : State) : Result := .next (s.rotateOperand .sra (.reg .l))

/-- SRA (HL) (R270). -/
def execSraAtHl (s : State) : Result := .next (s.rotateOperand .sra .atHl)

/-- SRA A (R270). -/
def execSraA (s : State) : Result := .next (s.rotateOperand .sra (.reg .a))

/-- SWAP B (R271). -/
def execSwapB (s : State) : Result := .next (s.rotateOperand .swap (.reg .b))

/-- SWAP C (R271). -/
def execSwapC (s : State) : Result := .next (s.rotateOperand .swap (.reg .c))

/-- SWAP D (R271). -/
def execSwapD (s : State) : Result := .next (s.rotateOperand .swap (.reg .d))

/-- SWAP E (R271). -/
def execSwapE (s : State) : Result := .next (s.rotateOperand .swap (.reg .e))

/-- SWAP H (R271). -/
def execSwapH (s : State) : Result := .next (s.rotateOperand .swap (.reg .h))

/-- SWAP L (R271). -/
def execSwapL (s : State) : Result := .next (s.rotateOperand .swap (.reg .l))

/-- SWAP (HL) (R271). -/
def execSwapAtHl (s : State) : Result := .next (s.rotateOperand .swap .atHl)

/-- SWAP A (R271). -/
def execSwapA (s : State) : Result := .next (s.rotateOperand .swap (.reg .a))

/-- SRL B (R272). -/
def execSrlB (s : State) : Result := .next (s.rotateOperand .srl (.reg .b))

/-- SRL C (R272). -/
def execSrlC (s : State) : Result := .next (s.rotateOperand .srl (.reg .c))

/-- SRL D (R272). -/
def execSrlD (s : State) : Result := .next (s.rotateOperand .srl (.reg .d))

/-- SRL E (R272). -/
def execSrlE (s : State) : Result := .next (s.rotateOperand .srl (.reg .e))

/-- SRL H (R272). -/
def execSrlH (s : State) : Result := .next (s.rotateOperand .srl (.reg .h))

/-- SRL L (R272). -/
def execSrlL (s : State) : Result := .next (s.rotateOperand .srl (.reg .l))

/-- SRL (HL) (R272). -/
def execSrlAtHl (s : State) : Result := .next (s.rotateOperand .srl .atHl)

/-- SRL A (R272). -/
def execSrlA (s : State) : Result := .next (s.rotateOperand .srl (.reg .a))

end Sys2Proof.Machine
end

