-- ==== Sys2Proof/WellFormed.lean ====
section
/-! DEFINITION. Which terms of `Instr` are instructions. Every value of an immediate is one an instruction may hold (R123), so the
only check is R131's: the CB prefix is not an instruction by itself. -/

namespace Sys2Proof

/-- The CB prefix row (R131). -/
def Instr.isCbPrefix : Instr → Bool
  | .prefixCb _ => true
  | _ => false

/-- R131: every constructor is an instruction, but for the bare CB prefix (DEDUCED, safe: notes/assumptions/9.md). -/
def Instr.wellFormed (i : Instr) : Bool := !i.isCbPrefix

end Sys2Proof
end

