-- ==== Sys2Proof/Decode.lean ====
section
/-! DEFINITION. Decoding, total on any bytes (spec 30_encoding.md R120 to R135), and after it the encoder.

The decoder follows the fields of R122 and the selectors of R124 to R129; the encoder is written from the other rendering of the
same encoding, the `match` column of spec/opcode_table.json, constructor by constructor. Between the two stand the families:
for each group of opcodes that differ in a selector only, the function from the selectors to the constructor. -/

namespace Sys2Proof

/-! ### The families: from operand selectors to constructors -/

/-- `LD r,r'` (R151), by destination and source. -/
def Instr.ldRegReg : Reg8 → Reg8 → Instr
  | .b, .b => .ldBB
  | .b, .c => .ldBC
  | .b, .d => .ldBD
  | .b, .e => .ldBE
  | .b, .h => .ldBH
  | .b, .l => .ldBL
  | .b, .a => .ldBA
  | .c, .b => .ldCB
  | .c, .c => .ldCC
  | .c, .d => .ldCD
  | .c, .e => .ldCE
  | .c, .h => .ldCH
  | .c, .l => .ldCL
  | .c, .a => .ldCA
  | .d, .b => .ldDB
  | .d, .c => .ldDC
  | .d, .d => .ldDD
  | .d, .e => .ldDE
  | .d, .h => .ldDH
  | .d, .l => .ldDL
  | .d, .a => .ldDA
  | .e, .b => .ldEB
  | .e, .c => .ldEC
  | .e, .d => .ldED
  | .e, .e => .ldEE
  | .e, .h => .ldEH
  | .e, .l => .ldEL
  | .e, .a => .ldEA
  | .h, .b => .ldHB
  | .h, .c => .ldHC
  | .h, .d => .ldHD
  | .h, .e => .ldHE
  | .h, .h => .ldHH
  | .h, .l => .ldHL
  | .h, .a => .ldHA
  | .l, .b => .ldLB
  | .l, .c => .ldLC
  | .l, .d => .ldLD
  | .l, .e => .ldLE
  | .l, .h => .ldLH
  | .l, .l => .ldLL
  | .l, .a => .ldLA
  | .a, .b => .ldAB
  | .a, .c => .ldAC
  | .a, .d => .ldAD
  | .a, .e => .ldAE
  | .a, .h => .ldAH
  | .a, .l => .ldAL
  | .a, .a => .ldAA

/-- `LD r,(HL)` (R152). -/
def Instr.ldRegAtHl : Reg8 → Instr
  | .b => .ldBAtHl
  | .c => .ldCAtHl
  | .d => .ldDAtHl
  | .e => .ldEAtHl
  | .h => .ldHAtHl
  | .l => .ldLAtHl
  | .a => .ldAAtHl

/-- `LD (HL),r` (R153). -/
def Instr.ldAtHlReg : Reg8 → Instr
  | .b => .ldAtHlB
  | .c => .ldAtHlC
  | .d => .ldAtHlD
  | .e => .ldAtHlE
  | .h => .ldAtHlH
  | .l => .ldAtHlL
  | .a => .ldAtHlA

/-- `LD r,n` (R154). -/
def Instr.ldRegN : Reg8 → Byte → Instr
  | .b, n => .ldBN n
  | .c, n => .ldCN n
  | .d, n => .ldDN n
  | .e, n => .ldEN n
  | .h, n => .ldHN n
  | .l, n => .ldLN n
  | .a, n => .ldAN n

/-- `LD rr,nn` (R170). -/
def Instr.ldReg16Nn : Reg16 → Word → Instr
  | .bc, nn => .ldBcNn nn
  | .de, nn => .ldDeNn nn
  | .hl, nn => .ldHlNn nn
  | .sp, nn => .ldSpNn nn

/-- `PUSH rr` (R173). -/
def Instr.push : StackReg → Instr
  | .bc => .pushBc
  | .de => .pushDe
  | .hl => .pushHl
  | .af => .pushAf

/-- `POP rr` (R174). -/
def Instr.pop : StackReg → Instr
  | .bc => .popBc
  | .de => .popDe
  | .hl => .popHl
  | .af => .popAf

/-- The two-operand ALU instructions on a register (R201, first form). -/
def Instr.aluReg : AluOp → Reg8 → Instr
  | .add, .b => .addAB
  | .add, .c => .addAC
  | .add, .d => .addAD
  | .add, .e => .addAE
  | .add, .h => .addAH
  | .add, .l => .addAL
  | .add, .a => .addAA
  | .adc, .b => .adcAB
  | .adc, .c => .adcAC
  | .adc, .d => .adcAD
  | .adc, .e => .adcAE
  | .adc, .h => .adcAH
  | .adc, .l => .adcAL
  | .adc, .a => .adcAA
  | .sub, .b => .subB
  | .sub, .c => .subC
  | .sub, .d => .subD
  | .sub, .e => .subE
  | .sub, .h => .subH
  | .sub, .l => .subL
  | .sub, .a => .subA
  | .sbc, .b => .sbcAB
  | .sbc, .c => .sbcAC
  | .sbc, .d => .sbcAD
  | .sbc, .e => .sbcAE
  | .sbc, .h => .sbcAH
  | .sbc, .l => .sbcAL
  | .sbc, .a => .sbcAA
  | .and, .b => .andB
  | .and, .c => .andC
  | .and, .d => .andD
  | .and, .e => .andE
  | .and, .h => .andH
  | .and, .l => .andL
  | .and, .a => .andA
  | .xor, .b => .xorB
  | .xor, .c => .xorC
  | .xor, .d => .xorD
  | .xor, .e => .xorE
  | .xor, .h => .xorH
  | .xor, .l => .xorL
  | .xor, .a => .xorA
  | .or, .b => .orB
  | .or, .c => .orC
  | .or, .d => .orD
  | .or, .e => .orE
  | .or, .h => .orH
  | .or, .l => .orL
  | .or, .a => .orA
  | .cp, .b => .cpB
  | .cp, .c => .cpC
  | .cp, .d => .cpD
  | .cp, .e => .cpE
  | .cp, .h => .cpH
  | .cp, .l => .cpL
  | .cp, .a => .cpA

/-- The two-operand ALU instructions on (HL) (R201, second form). -/
def Instr.aluAtHl : AluOp → Instr
  | .add => .addAAtHl
  | .adc => .adcAAtHl
  | .sub => .subAtHl
  | .sbc => .sbcAAtHl
  | .and => .andAtHl
  | .xor => .xorAtHl
  | .or => .orAtHl
  | .cp => .cpAtHl

/-- The two-operand ALU instructions on an immediate (R201, third form). -/
def Instr.aluN : AluOp → Byte → Instr
  | .add, n => .addAN n
  | .adc, n => .adcAN n
  | .sub, n => .subN n
  | .sbc, n => .sbcAN n
  | .and, n => .andN n
  | .xor, n => .xorN n
  | .or, n => .orN n
  | .cp, n => .cpN n

/-- `INC r` (R210). -/
def Instr.incReg : Reg8 → Instr
  | .b => .incB
  | .c => .incC
  | .d => .incD
  | .e => .incE
  | .h => .incH
  | .l => .incL
  | .a => .incA

/-- `DEC r` (R212). -/
def Instr.decReg : Reg8 → Instr
  | .b => .decB
  | .c => .decC
  | .d => .decD
  | .e => .decE
  | .h => .decH
  | .l => .decL
  | .a => .decA

/-- `ADD HL,rr` (R240). -/
def Instr.addHlReg16 : Reg16 → Instr
  | .bc => .addHlBc
  | .de => .addHlDe
  | .hl => .addHlHl
  | .sp => .addHlSp

/-- `INC rr` (R241). -/
def Instr.incReg16 : Reg16 → Instr
  | .bc => .incBc
  | .de => .incDe
  | .hl => .incHl
  | .sp => .incSp

/-- `DEC rr` (R242). -/
def Instr.decReg16 : Reg16 → Instr
  | .bc => .decBc
  | .de => .decDe
  | .hl => .decHl
  | .sp => .decSp

/-- The CB rotates and shifts (R265 to R272). -/
def Instr.rot : RotOp → Operand8 → Instr
  | .rlc, .reg .b => .rlcB
  | .rlc, .reg .c => .rlcC
  | .rlc, .reg .d => .rlcD
  | .rlc, .reg .e => .rlcE
  | .rlc, .reg .h => .rlcH
  | .rlc, .reg .l => .rlcL
  | .rlc, .reg .a => .rlcA
  | .rlc, .atHl => .rlcAtHl
  | .rrc, .reg .b => .rrcB
  | .rrc, .reg .c => .rrcC
  | .rrc, .reg .d => .rrcD
  | .rrc, .reg .e => .rrcE
  | .rrc, .reg .h => .rrcH
  | .rrc, .reg .l => .rrcL
  | .rrc, .reg .a => .rrcA
  | .rrc, .atHl => .rrcAtHl
  | .rl, .reg .b => .rlB
  | .rl, .reg .c => .rlC
  | .rl, .reg .d => .rlD
  | .rl, .reg .e => .rlE
  | .rl, .reg .h => .rlH
  | .rl, .reg .l => .rlL
  | .rl, .reg .a => .rlA
  | .rl, .atHl => .rlAtHl
  | .rr, .reg .b => .rrB
  | .rr, .reg .c => .rrC
  | .rr, .reg .d => .rrD
  | .rr, .reg .e => .rrE
  | .rr, .reg .h => .rrH
  | .rr, .reg .l => .rrL
  | .rr, .reg .a => .rrA
  | .rr, .atHl => .rrAtHl
  | .sla, .reg .b => .slaB
  | .sla, .reg .c => .slaC
  | .sla, .reg .d => .slaD
  | .sla, .reg .e => .slaE
  | .sla, .reg .h => .slaH
  | .sla, .reg .l => .slaL
  | .sla, .reg .a => .slaA
  | .sla, .atHl => .slaAtHl
  | .sra, .reg .b => .sraB
  | .sra, .reg .c => .sraC
  | .sra, .reg .d => .sraD
  | .sra, .reg .e => .sraE
  | .sra, .reg .h => .sraH
  | .sra, .reg .l => .sraL
  | .sra, .reg .a => .sraA
  | .sra, .atHl => .sraAtHl
  | .swap, .reg .b => .swapB
  | .swap, .reg .c => .swapC
  | .swap, .reg .d => .swapD
  | .swap, .reg .e => .swapE
  | .swap, .reg .h => .swapH
  | .swap, .reg .l => .swapL
  | .swap, .reg .a => .swapA
  | .swap, .atHl => .swapAtHl
  | .srl, .reg .b => .srlB
  | .srl, .reg .c => .srlC
  | .srl, .reg .d => .srlD
  | .srl, .reg .e => .srlE
  | .srl, .reg .h => .srlH
  | .srl, .reg .l => .srlL
  | .srl, .reg .a => .srlA
  | .srl, .atHl => .srlAtHl

/-- `BIT b,o` (R273). -/
def Instr.bit : Fin 8 → Operand8 → Instr
  | 0, .reg .b => .bit0B
  | 0, .reg .c => .bit0C
  | 0, .reg .d => .bit0D
  | 0, .reg .e => .bit0E
  | 0, .reg .h => .bit0H
  | 0, .reg .l => .bit0L
  | 0, .reg .a => .bit0A
  | 0, .atHl => .bit0AtHl
  | 1, .reg .b => .bit1B
  | 1, .reg .c => .bit1C
  | 1, .reg .d => .bit1D
  | 1, .reg .e => .bit1E
  | 1, .reg .h => .bit1H
  | 1, .reg .l => .bit1L
  | 1, .reg .a => .bit1A
  | 1, .atHl => .bit1AtHl
  | 2, .reg .b => .bit2B
  | 2, .reg .c => .bit2C
  | 2, .reg .d => .bit2D
  | 2, .reg .e => .bit2E
  | 2, .reg .h => .bit2H
  | 2, .reg .l => .bit2L
  | 2, .reg .a => .bit2A
  | 2, .atHl => .bit2AtHl
  | 3, .reg .b => .bit3B
  | 3, .reg .c => .bit3C
  | 3, .reg .d => .bit3D
  | 3, .reg .e => .bit3E
  | 3, .reg .h => .bit3H
  | 3, .reg .l => .bit3L
  | 3, .reg .a => .bit3A
  | 3, .atHl => .bit3AtHl
  | 4, .reg .b => .bit4B
  | 4, .reg .c => .bit4C
  | 4, .reg .d => .bit4D
  | 4, .reg .e => .bit4E
  | 4, .reg .h => .bit4H
  | 4, .reg .l => .bit4L
  | 4, .reg .a => .bit4A
  | 4, .atHl => .bit4AtHl
  | 5, .reg .b => .bit5B
  | 5, .reg .c => .bit5C
  | 5, .reg .d => .bit5D
  | 5, .reg .e => .bit5E
  | 5, .reg .h => .bit5H
  | 5, .reg .l => .bit5L
  | 5, .reg .a => .bit5A
  | 5, .atHl => .bit5AtHl
  | 6, .reg .b => .bit6B
  | 6, .reg .c => .bit6C
  | 6, .reg .d => .bit6D
  | 6, .reg .e => .bit6E
  | 6, .reg .h => .bit6H
  | 6, .reg .l => .bit6L
  | 6, .reg .a => .bit6A
  | 6, .atHl => .bit6AtHl
  | 7, .reg .b => .bit7B
  | 7, .reg .c => .bit7C
  | 7, .reg .d => .bit7D
  | 7, .reg .e => .bit7E
  | 7, .reg .h => .bit7H
  | 7, .reg .l => .bit7L
  | 7, .reg .a => .bit7A
  | 7, .atHl => .bit7AtHl

/-- `RES b,o` (R274). -/
def Instr.res : Fin 8 → Operand8 → Instr
  | 0, .reg .b => .res0B
  | 0, .reg .c => .res0C
  | 0, .reg .d => .res0D
  | 0, .reg .e => .res0E
  | 0, .reg .h => .res0H
  | 0, .reg .l => .res0L
  | 0, .reg .a => .res0A
  | 0, .atHl => .res0AtHl
  | 1, .reg .b => .res1B
  | 1, .reg .c => .res1C
  | 1, .reg .d => .res1D
  | 1, .reg .e => .res1E
  | 1, .reg .h => .res1H
  | 1, .reg .l => .res1L
  | 1, .reg .a => .res1A
  | 1, .atHl => .res1AtHl
  | 2, .reg .b => .res2B
  | 2, .reg .c => .res2C
  | 2, .reg .d => .res2D
  | 2, .reg .e => .res2E
  | 2, .reg .h => .res2H
  | 2, .reg .l => .res2L
  | 2, .reg .a => .res2A
  | 2, .atHl => .res2AtHl
  | 3, .reg .b => .res3B
  | 3, .reg .c => .res3C
  | 3, .reg .d => .res3D
  | 3, .reg .e => .res3E
  | 3, .reg .h => .res3H
  | 3, .reg .l => .res3L
  | 3, .reg .a => .res3A
  | 3, .atHl => .res3AtHl
  | 4, .reg .b => .res4B
  | 4, .reg .c => .res4C
  | 4, .reg .d => .res4D
  | 4, .reg .e => .res4E
  | 4, .reg .h => .res4H
  | 4, .reg .l => .res4L
  | 4, .reg .a => .res4A
  | 4, .atHl => .res4AtHl
  | 5, .reg .b => .res5B
  | 5, .reg .c => .res5C
  | 5, .reg .d => .res5D
  | 5, .reg .e => .res5E
  | 5, .reg .h => .res5H
  | 5, .reg .l => .res5L
  | 5, .reg .a => .res5A
  | 5, .atHl => .res5AtHl
  | 6, .reg .b => .res6B
  | 6, .reg .c => .res6C
  | 6, .reg .d => .res6D
  | 6, .reg .e => .res6E
  | 6, .reg .h => .res6H
  | 6, .reg .l => .res6L
  | 6, .reg .a => .res6A
  | 6, .atHl => .res6AtHl
  | 7, .reg .b => .res7B
  | 7, .reg .c => .res7C
  | 7, .reg .d => .res7D
  | 7, .reg .e => .res7E
  | 7, .reg .h => .res7H
  | 7, .reg .l => .res7L
  | 7, .reg .a => .res7A
  | 7, .atHl => .res7AtHl

/-- `SET b,o` (R275). -/
def Instr.set : Fin 8 → Operand8 → Instr
  | 0, .reg .b => .set0B
  | 0, .reg .c => .set0C
  | 0, .reg .d => .set0D
  | 0, .reg .e => .set0E
  | 0, .reg .h => .set0H
  | 0, .reg .l => .set0L
  | 0, .reg .a => .set0A
  | 0, .atHl => .set0AtHl
  | 1, .reg .b => .set1B
  | 1, .reg .c => .set1C
  | 1, .reg .d => .set1D
  | 1, .reg .e => .set1E
  | 1, .reg .h => .set1H
  | 1, .reg .l => .set1L
  | 1, .reg .a => .set1A
  | 1, .atHl => .set1AtHl
  | 2, .reg .b => .set2B
  | 2, .reg .c => .set2C
  | 2, .reg .d => .set2D
  | 2, .reg .e => .set2E
  | 2, .reg .h => .set2H
  | 2, .reg .l => .set2L
  | 2, .reg .a => .set2A
  | 2, .atHl => .set2AtHl
  | 3, .reg .b => .set3B
  | 3, .reg .c => .set3C
  | 3, .reg .d => .set3D
  | 3, .reg .e => .set3E
  | 3, .reg .h => .set3H
  | 3, .reg .l => .set3L
  | 3, .reg .a => .set3A
  | 3, .atHl => .set3AtHl
  | 4, .reg .b => .set4B
  | 4, .reg .c => .set4C
  | 4, .reg .d => .set4D
  | 4, .reg .e => .set4E
  | 4, .reg .h => .set4H
  | 4, .reg .l => .set4L
  | 4, .reg .a => .set4A
  | 4, .atHl => .set4AtHl
  | 5, .reg .b => .set5B
  | 5, .reg .c => .set5C
  | 5, .reg .d => .set5D
  | 5, .reg .e => .set5E
  | 5, .reg .h => .set5H
  | 5, .reg .l => .set5L
  | 5, .reg .a => .set5A
  | 5, .atHl => .set5AtHl
  | 6, .reg .b => .set6B
  | 6, .reg .c => .set6C
  | 6, .reg .d => .set6D
  | 6, .reg .e => .set6E
  | 6, .reg .h => .set6H
  | 6, .reg .l => .set6L
  | 6, .reg .a => .set6A
  | 6, .atHl => .set6AtHl
  | 7, .reg .b => .set7B
  | 7, .reg .c => .set7C
  | 7, .reg .d => .set7D
  | 7, .reg .e => .set7E
  | 7, .reg .h => .set7H
  | 7, .reg .l => .set7L
  | 7, .reg .a => .set7A
  | 7, .atHl => .set7AtHl

/-- `JP cc,nn` (R302). -/
def Instr.jpCond : Cond → Word → Instr
  | .nz, nn => .jpNzNn nn
  | .z, nn => .jpZNn nn
  | .nc, nn => .jpNcNn nn
  | .c, nn => .jpCNn nn

/-- `CALL cc,nn` (R307). -/
def Instr.callCond : Cond → Word → Instr
  | .nz, nn => .callNzNn nn
  | .z, nn => .callZNn nn
  | .nc, nn => .callNcNn nn
  | .c, nn => .callCNn nn

/-- `RET cc` (R309). -/
def Instr.retCond : Cond → Instr
  | .nz => .retNz
  | .z => .retZ
  | .nc => .retNc
  | .c => .retC

/-- `JR cc,e` (R305). -/
def Instr.jrCond : Cond → Byte → Instr
  | .nz, e => .jrNzE e
  | .z, e => .jrZE e
  | .nc, e => .jrNcE e
  | .c, e => .jrCE e

/-- `RST t` with t = 8 * y (R311). -/
def Instr.rst : Fin 8 → Instr
  | 0 => .rst00
  | 1 => .rst08
  | 2 => .rst10
  | 3 => .rst18
  | 4 => .rst20
  | 5 => .rst28
  | 6 => .rst30
  | 7 => .rst38

/-! ### The selectors of R124 to R129 -/

/-- `reg8[k]` (R124). -/
def reg8Sel : Fin 8 → Operand8
  | 0 => .reg .b | 1 => .reg .c | 2 => .reg .d | 3 => .reg .e
  | 4 => .reg .h | 5 => .reg .l | 6 => .atHl   | 7 => .reg .a

/-- `reg16[p]` (R125), `p` being the upper two bits of `y`. -/
def reg16Sel (y : Fin 8) : Reg16 :=
  match y with
  | 0 => .bc | 1 => .bc | 2 => .de | 3 => .de | 4 => .hl | 5 => .hl | 6 => .sp | 7 => .sp

/-- `reg16s[p]` (R126), `p` being the upper two bits of `y`. -/
def stackSel (y : Fin 8) : StackReg :=
  match y with
  | 0 => .bc | 1 => .bc | 2 => .de | 3 => .de | 4 => .hl | 5 => .hl | 6 => .af | 7 => .af

/-- `cond[y & 3]` (R127; for JR cc, whose `y` is 4 to 7, `y - 4` and `y & 3` are the same). -/
def condSel : Fin 8 → Cond
  | 0 => .nz | 1 => .z | 2 => .nc | 3 => .c | 4 => .nz | 5 => .z | 6 => .nc | 7 => .c

/-- `alu[y]` (R128). -/
def aluSel : Fin 8 → AluOp
  | 0 => .add | 1 => .adc | 2 => .sub | 3 => .sbc | 4 => .and | 5 => .xor | 6 => .or | 7 => .cp

/-- `rot[y]` (R129). -/
def rotSel : Fin 8 → RotOp
  | 0 => .rlc | 1 => .rrc | 2 => .rl | 3 => .rr | 4 => .sla | 5 => .sra | 6 => .swap | 7 => .srl

/-! ### The fields of an opcode byte (R122) -/

/-- `x = op[7:6]`. -/
def fieldX (op : Byte) : Fin 4 := ⟨op.toNat / 64 % 4, by omega⟩

/-- `y = op[5:3]`. -/
def fieldY (op : Byte) : Fin 8 := ⟨op.toNat / 8 % 8, by omega⟩

/-- `z = op[2:0]`. -/
def fieldZ (op : Byte) : Fin 8 := ⟨op.toNat % 8, by omega⟩

/-! ### The decoder -/

/-- The CB sub-table (R129, R131): all 256 CB opcodes are defined. -/
def decodeCb (op2 : Byte) : Instr :=
  match fieldX op2 with
  | 0 => .rot (rotSel (fieldY op2)) (reg8Sel (fieldZ op2))
  | 1 => .bit (fieldY op2) (reg8Sel (fieldZ op2))
  | 2 => .res (fieldY op2) (reg8Sel (fieldZ op2))
  | 3 => .set (fieldY op2) (reg8Sel (fieldZ op2))

/-- The opcodes 0x00 to 0x3F (R130): the instruction, whose operand bytes are `b1` and `b2`. -/
def decodeX0 (y z : Fin 8) (b1 b2 : Byte) : Instr :=
  match z with
  | 0 =>
    match y with
    | 0 => .nop
    | 1 => .ldAtNnSp (mkWord b2 b1)
    | 2 => .stop
    | 3 => .jrE b1
    | 4 => .jrCond (condSel y) b1
    | 5 => .jrCond (condSel y) b1
    | 6 => .jrCond (condSel y) b1
    | 7 => .jrCond (condSel y) b1
  | 1 => if y.val % 2 = 0 then .ldReg16Nn (reg16Sel y) (mkWord b2 b1) else .addHlReg16 (reg16Sel y)
  | 2 =>
    match y with
    | 0 => .ldAtBcA
    | 1 => .ldAAtBc
    | 2 => .ldAtDeA
    | 3 => .ldAAtDe
    | 4 => .ldAtHlIncA
    | 5 => .ldAAtHlInc
    | 6 => .ldAtHlDecA
    | 7 => .ldAAtHlDec
  | 3 => if y.val % 2 = 0 then .incReg16 (reg16Sel y) else .decReg16 (reg16Sel y)
  | 4 =>
    match reg8Sel y with
    | .reg r => .incReg r
    | .atHl => .incAtHl
  | 5 =>
    match reg8Sel y with
    | .reg r => .decReg r
    | .atHl => .decAtHl
  | 6 =>
    match reg8Sel y with
    | .reg r => .ldRegN r b1
    | .atHl => .ldAtHlN b1
  | 7 =>
    match y with
    | 0 => .rlcAcc
    | 1 => .rrcAcc
    | 2 => .rlAcc
    | 3 => .rrAcc
    | 4 => .daa
    | 5 => .cplAcc
    | 6 => .scf
    | 7 => .ccf

/-- The opcodes 0x40 to 0x7F (R130): the loads, with HALT in the place of `LD (HL),(HL)`. -/
def decodeX1 (y z : Fin 8) : Instr :=
  match reg8Sel y, reg8Sel z with
  | .reg dst, .reg src => .ldRegReg dst src
  | .reg dst, .atHl => .ldRegAtHl dst
  | .atHl, .reg src => .ldAtHlReg src
  | .atHl, .atHl => .halt

/-- The opcodes 0x80 to 0xBF (R128, R130). -/
def decodeX2 (y z : Fin 8) : Instr :=
  match reg8Sel z with
  | .reg r => .aluReg (aluSel y) r
  | .atHl => .aluAtHl (aluSel y)

/-- The opcodes 0xC0 to 0xFF (R130); 0xCB's CB opcode is `b1` (R131), and the eleven unassigned opcodes are instructions of
their own (R132). -/
def decodeX3 (y z : Fin 8) (b1 b2 : Byte) : Instr :=
  match z with
  | 0 =>
    match y with
    | 0 => .retCond (condSel y)
    | 1 => .retCond (condSel y)
    | 2 => .retCond (condSel y)
    | 3 => .retCond (condSel y)
    | 4 => .ldhAtNA b1
    | 5 => .addSpE b1
    | 6 => .ldhAAtN b1
    | 7 => .ldHlSpE b1
  | 1 =>
    match y with
    | 0 => .pop (stackSel y)
    | 1 => .ret
    | 2 => .pop (stackSel y)
    | 3 => .reti
    | 4 => .pop (stackSel y)
    | 5 => .jpHl
    | 6 => .pop (stackSel y)
    | 7 => .ldSpHl
  | 2 =>
    match y with
    | 0 => .jpCond (condSel y) (mkWord b2 b1)
    | 1 => .jpCond (condSel y) (mkWord b2 b1)
    | 2 => .jpCond (condSel y) (mkWord b2 b1)
    | 3 => .jpCond (condSel y) (mkWord b2 b1)
    | 4 => .ldhAtCA
    | 5 => .ldAtNnA (mkWord b2 b1)
    | 6 => .ldhAAtC
    | 7 => .ldAAtNn (mkWord b2 b1)
  | 3 =>
    match y with
    | 0 => .jpNn (mkWord b2 b1)
    | 1 => decodeCb b1
    | 2 => .illegalD3
    | 3 => .illegalDB
    | 4 => .illegalE3
    | 5 => .illegalEB
    | 6 => .di
    | 7 => .ei
  | 4 =>
    match y with
    | 0 => .callCond (condSel y) (mkWord b2 b1)
    | 1 => .callCond (condSel y) (mkWord b2 b1)
    | 2 => .callCond (condSel y) (mkWord b2 b1)
    | 3 => .callCond (condSel y) (mkWord b2 b1)
    | 4 => .illegalE4
    | 5 => .illegalEC
    | 6 => .illegalF4
    | 7 => .illegalFC
  | 5 =>
    match y with
    | 0 => .push (stackSel y)
    | 1 => .callNn (mkWord b2 b1)
    | 2 => .push (stackSel y)
    | 3 => .illegalDD
    | 4 => .push (stackSel y)
    | 5 => .illegalED
    | 6 => .push (stackSel y)
    | 7 => .illegalFD
  | 6 => .aluN (aluSel y) b1
  | 7 => .rst y

/-- `Decode(op)` (R134), given the two bytes after the opcode, which an instruction that is shorter does not look at. -/
def decodeAt (op b1 b2 : Byte) : Instr :=
  match fieldX op with
  | 0 => decodeX0 (fieldY op) (fieldZ op) b1 b2
  | 1 => decodeX1 (fieldY op) (fieldZ op)
  | 2 => decodeX2 (fieldY op) (fieldZ op)
  | 3 => decodeX3 (fieldY op) (fieldZ op) b1 b2

/-- The length of the instruction, determined by its first byte alone (R120, R121): the formats OP_N16 (3), OP_N8, OP_A8, OP_E8
and CB (2), and OP (1). -/
def instrLength (op : Byte) : Nat :=
  match fieldX op, fieldZ op with
  | 0, 0 => if fieldY op = 1 then 3 else if 3 ≤ (fieldY op).val then 2 else 1
  | 0, 1 => if (fieldY op).val % 2 = 0 then 3 else 1
  | 0, 6 => 2
  | 3, 0 => if 4 ≤ (fieldY op).val then 2 else 1
  | 3, 2 => if (fieldY op).val ≤ 3 ∨ fieldY op = 5 ∨ fieldY op = 7 then 3 else 1
  | 3, 3 => if fieldY op = 0 then 3 else if fieldY op = 1 then 2 else 1
  | 3, 4 => if (fieldY op).val ≤ 3 then 3 else 1
  | 3, 5 => if fieldY op = 1 then 3 else 1
  | 3, 6 => 2
  | _, _ => 1

/-- Why a list of bytes holds no whole instruction. A fetch never meets either: it reads as many bytes as the opcode asks for. -/
inductive DecodeError where
  /-- There is no opcode byte. Raised by `decode` on the empty list; safe. -/
  | noBytes
  /-- The list ends before the operands of `opcode` do. Raised by `decode`; safe. -/
  | truncated (opcode : Byte)
  deriving DecidableEq, Repr

/-- Decoding a list of bytes: the first instruction and the bytes after it, or why there is none. -/
def decode : List Byte → Except DecodeError (Instr × List Byte)
  | [] => .error .noBytes
  | op :: rest =>
    if rest.length < instrLength op - 1 then .error (.truncated op)
    else .ok (decodeAt op (rest.getD 0 0) (rest.getD 1 0), rest.drop (instrLength op - 1))

/-! ### The encoder -/

/-- The bytes of an instruction, in the order they stand in memory (R121, R123): the opcode from the `match` column of
spec/opcode_table.json, then its immediates, the low byte of a 16-bit one first. -/
def encode : Instr → List Byte
  | .nop => [0x00]
  | .ldBcNn nn => [0x01, loByte nn, hiByte nn]
  | .ldAtBcA => [0x02]
  | .incBc => [0x03]
  | .incB => [0x04]
  | .decB => [0x05]
  | .ldBN n => [0x06, n]
  | .rlcAcc => [0x07]
  | .ldAtNnSp nn => [0x08, loByte nn, hiByte nn]
  | .addHlBc => [0x09]
  | .ldAAtBc => [0x0A]
  | .decBc => [0x0B]
  | .incC => [0x0C]
  | .decC => [0x0D]
  | .ldCN n => [0x0E, n]
  | .rrcAcc => [0x0F]
  | .stop => [0x10]
  | .ldDeNn nn => [0x11, loByte nn, hiByte nn]
  | .ldAtDeA => [0x12]
  | .incDe => [0x13]
  | .incD => [0x14]
  | .decD => [0x15]
  | .ldDN n => [0x16, n]
  | .rlAcc => [0x17]
  | .jrE e => [0x18, e]
  | .addHlDe => [0x19]
  | .ldAAtDe => [0x1A]
  | .decDe => [0x1B]
  | .incE => [0x1C]
  | .decE => [0x1D]
  | .ldEN n => [0x1E, n]
  | .rrAcc => [0x1F]
  | .jrNzE e => [0x20, e]
  | .ldHlNn nn => [0x21, loByte nn, hiByte nn]
  | .ldAtHlIncA => [0x22]
  | .incHl => [0x23]
  | .incH => [0x24]
  | .decH => [0x25]
  | .ldHN n => [0x26, n]
  | .daa => [0x27]
  | .jrZE e => [0x28, e]
  | .addHlHl => [0x29]
  | .ldAAtHlInc => [0x2A]
  | .decHl => [0x2B]
  | .incL => [0x2C]
  | .decL => [0x2D]
  | .ldLN n => [0x2E, n]
  | .cplAcc => [0x2F]
  | .jrNcE e => [0x30, e]
  | .ldSpNn nn => [0x31, loByte nn, hiByte nn]
  | .ldAtHlDecA => [0x32]
  | .incSp => [0x33]
  | .incAtHl => [0x34]
  | .decAtHl => [0x35]
  | .ldAtHlN n => [0x36, n]
  | .scf => [0x37]
  | .jrCE e => [0x38, e]
  | .addHlSp => [0x39]
  | .ldAAtHlDec => [0x3A]
  | .decSp => [0x3B]
  | .incA => [0x3C]
  | .decA => [0x3D]
  | .ldAN n => [0x3E, n]
  | .ccf => [0x3F]
  | .ldBB => [0x40]
  | .ldBC => [0x41]
  | .ldBD => [0x42]
  | .ldBE => [0x43]
  | .ldBH => [0x44]
  | .ldBL => [0x45]
  | .ldBAtHl => [0x46]
  | .ldBA => [0x47]
  | .ldCB => [0x48]
  | .ldCC => [0x49]
  | .ldCD => [0x4A]
  | .ldCE => [0x4B]
  | .ldCH => [0x4C]
  | .ldCL => [0x4D]
  | .ldCAtHl => [0x4E]
  | .ldCA => [0x4F]
  | .ldDB => [0x50]
  | .ldDC => [0x51]
  | .ldDD => [0x52]
  | .ldDE => [0x53]
  | .ldDH => [0x54]
  | .ldDL => [0x55]
  | .ldDAtHl => [0x56]
  | .ldDA => [0x57]
  | .ldEB => [0x58]
  | .ldEC => [0x59]
  | .ldED => [0x5A]
  | .ldEE => [0x5B]
  | .ldEH => [0x5C]
  | .ldEL => [0x5D]
  | .ldEAtHl => [0x5E]
  | .ldEA => [0x5F]
  | .ldHB => [0x60]
  | .ldHC => [0x61]
  | .ldHD => [0x62]
  | .ldHE => [0x63]
  | .ldHH => [0x64]
  | .ldHL => [0x65]
  | .ldHAtHl => [0x66]
  | .ldHA => [0x67]
  | .ldLB => [0x68]
  | .ldLC => [0x69]
  | .ldLD => [0x6A]
  | .ldLE => [0x6B]
  | .ldLH => [0x6C]
  | .ldLL => [0x6D]
  | .ldLAtHl => [0x6E]
  | .ldLA => [0x6F]
  | .ldAtHlB => [0x70]
  | .ldAtHlC => [0x71]
  | .ldAtHlD => [0x72]
  | .ldAtHlE => [0x73]
  | .ldAtHlH => [0x74]
  | .ldAtHlL => [0x75]
  | .halt => [0x76]
  | .ldAtHlA => [0x77]
  | .ldAB => [0x78]
  | .ldAC => [0x79]
  | .ldAD => [0x7A]
  | .ldAE => [0x7B]
  | .ldAH => [0x7C]
  | .ldAL => [0x7D]
  | .ldAAtHl => [0x7E]
  | .ldAA => [0x7F]
  | .addAB => [0x80]
  | .addAC => [0x81]
  | .addAD => [0x82]
  | .addAE => [0x83]
  | .addAH => [0x84]
  | .addAL => [0x85]
  | .addAAtHl => [0x86]
  | .addAA => [0x87]
  | .adcAB => [0x88]
  | .adcAC => [0x89]
  | .adcAD => [0x8A]
  | .adcAE => [0x8B]
  | .adcAH => [0x8C]
  | .adcAL => [0x8D]
  | .adcAAtHl => [0x8E]
  | .adcAA => [0x8F]
  | .subB => [0x90]
  | .subC => [0x91]
  | .subD => [0x92]
  | .subE => [0x93]
  | .subH => [0x94]
  | .subL => [0x95]
  | .subAtHl => [0x96]
  | .subA => [0x97]
  | .sbcAB => [0x98]
  | .sbcAC => [0x99]
  | .sbcAD => [0x9A]
  | .sbcAE => [0x9B]
  | .sbcAH => [0x9C]
  | .sbcAL => [0x9D]
  | .sbcAAtHl => [0x9E]
  | .sbcAA => [0x9F]
  | .andB => [0xA0]
  | .andC => [0xA1]
  | .andD => [0xA2]
  | .andE => [0xA3]
  | .andH => [0xA4]
  | .andL => [0xA5]
  | .andAtHl => [0xA6]
  | .andA => [0xA7]
  | .xorB => [0xA8]
  | .xorC => [0xA9]
  | .xorD => [0xAA]
  | .xorE => [0xAB]
  | .xorH => [0xAC]
  | .xorL => [0xAD]
  | .xorAtHl => [0xAE]
  | .xorA => [0xAF]
  | .orB => [0xB0]
  | .orC => [0xB1]
  | .orD => [0xB2]
  | .orE => [0xB3]
  | .orH => [0xB4]
  | .orL => [0xB5]
  | .orAtHl => [0xB6]
  | .orA => [0xB7]
  | .cpB => [0xB8]
  | .cpC => [0xB9]
  | .cpD => [0xBA]
  | .cpE => [0xBB]
  | .cpH => [0xBC]
  | .cpL => [0xBD]
  | .cpAtHl => [0xBE]
  | .cpA => [0xBF]
  | .retNz => [0xC0]
  | .popBc => [0xC1]
  | .jpNzNn nn => [0xC2, loByte nn, hiByte nn]
  | .jpNn nn => [0xC3, loByte nn, hiByte nn]
  | .callNzNn nn => [0xC4, loByte nn, hiByte nn]
  | .pushBc => [0xC5]
  | .addAN n => [0xC6, n]
  | .rst00 => [0xC7]
  | .retZ => [0xC8]
  | .ret => [0xC9]
  | .jpZNn nn => [0xCA, loByte nn, hiByte nn]
  | .prefixCb op2 => [0xCB, op2]
  | .callZNn nn => [0xCC, loByte nn, hiByte nn]
  | .callNn nn => [0xCD, loByte nn, hiByte nn]
  | .adcAN n => [0xCE, n]
  | .rst08 => [0xCF]
  | .retNc => [0xD0]
  | .popDe => [0xD1]
  | .jpNcNn nn => [0xD2, loByte nn, hiByte nn]
  | .illegalD3 => [0xD3]
  | .callNcNn nn => [0xD4, loByte nn, hiByte nn]
  | .pushDe => [0xD5]
  | .subN n => [0xD6, n]
  | .rst10 => [0xD7]
  | .retC => [0xD8]
  | .reti => [0xD9]
  | .jpCNn nn => [0xDA, loByte nn, hiByte nn]
  | .illegalDB => [0xDB]
  | .callCNn nn => [0xDC, loByte nn, hiByte nn]
  | .illegalDD => [0xDD]
  | .sbcAN n => [0xDE, n]
  | .rst18 => [0xDF]
  | .ldhAtNA n => [0xE0, n]
  | .popHl => [0xE1]
  | .ldhAtCA => [0xE2]
  | .illegalE3 => [0xE3]
  | .illegalE4 => [0xE4]
  | .pushHl => [0xE5]
  | .andN n => [0xE6, n]
  | .rst20 => [0xE7]
  | .addSpE e => [0xE8, e]
  | .jpHl => [0xE9]
  | .ldAtNnA nn => [0xEA, loByte nn, hiByte nn]
  | .illegalEB => [0xEB]
  | .illegalEC => [0xEC]
  | .illegalED => [0xED]
  | .xorN n => [0xEE, n]
  | .rst28 => [0xEF]
  | .ldhAAtN n => [0xF0, n]
  | .popAf => [0xF1]
  | .ldhAAtC => [0xF2]
  | .di => [0xF3]
  | .illegalF4 => [0xF4]
  | .pushAf => [0xF5]
  | .orN n => [0xF6, n]
  | .rst30 => [0xF7]
  | .ldHlSpE e => [0xF8, e]
  | .ldSpHl => [0xF9]
  | .ldAAtNn nn => [0xFA, loByte nn, hiByte nn]
  | .ei => [0xFB]
  | .illegalFC => [0xFC]
  | .illegalFD => [0xFD]
  | .cpN n => [0xFE, n]
  | .rst38 => [0xFF]
  | .rlcB => [0xCB, 0x00]
  | .rlcC => [0xCB, 0x01]
  | .rlcD => [0xCB, 0x02]
  | .rlcE => [0xCB, 0x03]
  | .rlcH => [0xCB, 0x04]
  | .rlcL => [0xCB, 0x05]
  | .rlcAtHl => [0xCB, 0x06]
  | .rlcA => [0xCB, 0x07]
  | .rrcB => [0xCB, 0x08]
  | .rrcC => [0xCB, 0x09]
  | .rrcD => [0xCB, 0x0A]
  | .rrcE => [0xCB, 0x0B]
  | .rrcH => [0xCB, 0x0C]
  | .rrcL => [0xCB, 0x0D]
  | .rrcAtHl => [0xCB, 0x0E]
  | .rrcA => [0xCB, 0x0F]
  | .rlB => [0xCB, 0x10]
  | .rlC => [0xCB, 0x11]
  | .rlD => [0xCB, 0x12]
  | .rlE => [0xCB, 0x13]
  | .rlH => [0xCB, 0x14]
  | .rlL => [0xCB, 0x15]
  | .rlAtHl => [0xCB, 0x16]
  | .rlA => [0xCB, 0x17]
  | .rrB => [0xCB, 0x18]
  | .rrC => [0xCB, 0x19]
  | .rrD => [0xCB, 0x1A]
  | .rrE => [0xCB, 0x1B]
  | .rrH => [0xCB, 0x1C]
  | .rrL => [0xCB, 0x1D]
  | .rrAtHl => [0xCB, 0x1E]
  | .rrA => [0xCB, 0x1F]
  | .slaB => [0xCB, 0x20]
  | .slaC => [0xCB, 0x21]
  | .slaD => [0xCB, 0x22]
  | .slaE => [0xCB, 0x23]
  | .slaH => [0xCB, 0x24]
  | .slaL => [0xCB, 0x25]
  | .slaAtHl => [0xCB, 0x26]
  | .slaA => [0xCB, 0x27]
  | .sraB => [0xCB, 0x28]
  | .sraC => [0xCB, 0x29]
  | .sraD => [0xCB, 0x2A]
  | .sraE => [0xCB, 0x2B]
  | .sraH => [0xCB, 0x2C]
  | .sraL => [0xCB, 0x2D]
  | .sraAtHl => [0xCB, 0x2E]
  | .sraA => [0xCB, 0x2F]
  | .swapB => [0xCB, 0x30]
  | .swapC => [0xCB, 0x31]
  | .swapD => [0xCB, 0x32]
  | .swapE => [0xCB, 0x33]
  | .swapH => [0xCB, 0x34]
  | .swapL => [0xCB, 0x35]
  | .swapAtHl => [0xCB, 0x36]
  | .swapA => [0xCB, 0x37]
  | .srlB => [0xCB, 0x38]
  | .srlC => [0xCB, 0x39]
  | .srlD => [0xCB, 0x3A]
  | .srlE => [0xCB, 0x3B]
  | .srlH => [0xCB, 0x3C]
  | .srlL => [0xCB, 0x3D]
  | .srlAtHl => [0xCB, 0x3E]
  | .srlA => [0xCB, 0x3F]
  | .bit0B => [0xCB, 0x40]
  | .bit0C => [0xCB, 0x41]
  | .bit0D => [0xCB, 0x42]
  | .bit0E => [0xCB, 0x43]
  | .bit0H => [0xCB, 0x44]
  | .bit0L => [0xCB, 0x45]
  | .bit0AtHl => [0xCB, 0x46]
  | .bit0A => [0xCB, 0x47]
  | .bit1B => [0xCB, 0x48]
  | .bit1C => [0xCB, 0x49]
  | .bit1D => [0xCB, 0x4A]
  | .bit1E => [0xCB, 0x4B]
  | .bit1H => [0xCB, 0x4C]
  | .bit1L => [0xCB, 0x4D]
  | .bit1AtHl => [0xCB, 0x4E]
  | .bit1A => [0xCB, 0x4F]
  | .bit2B => [0xCB, 0x50]
  | .bit2C => [0xCB, 0x51]
  | .bit2D => [0xCB, 0x52]
  | .bit2E => [0xCB, 0x53]
  | .bit2H => [0xCB, 0x54]
  | .bit2L => [0xCB, 0x55]
  | .bit2AtHl => [0xCB, 0x56]
  | .bit2A => [0xCB, 0x57]
  | .bit3B => [0xCB, 0x58]
  | .bit3C => [0xCB, 0x59]
  | .bit3D => [0xCB, 0x5A]
  | .bit3E => [0xCB, 0x5B]
  | .bit3H => [0xCB, 0x5C]
  | .bit3L => [0xCB, 0x5D]
  | .bit3AtHl => [0xCB, 0x5E]
  | .bit3A => [0xCB, 0x5F]
  | .bit4B => [0xCB, 0x60]
  | .bit4C => [0xCB, 0x61]
  | .bit4D => [0xCB, 0x62]
  | .bit4E => [0xCB, 0x63]
  | .bit4H => [0xCB, 0x64]
  | .bit4L => [0xCB, 0x65]
  | .bit4AtHl => [0xCB, 0x66]
  | .bit4A => [0xCB, 0x67]
  | .bit5B => [0xCB, 0x68]
  | .bit5C => [0xCB, 0x69]
  | .bit5D => [0xCB, 0x6A]
  | .bit5E => [0xCB, 0x6B]
  | .bit5H => [0xCB, 0x6C]
  | .bit5L => [0xCB, 0x6D]
  | .bit5AtHl => [0xCB, 0x6E]
  | .bit5A => [0xCB, 0x6F]
  | .bit6B => [0xCB, 0x70]
  | .bit6C => [0xCB, 0x71]
  | .bit6D => [0xCB, 0x72]
  | .bit6E => [0xCB, 0x73]
  | .bit6H => [0xCB, 0x74]
  | .bit6L => [0xCB, 0x75]
  | .bit6AtHl => [0xCB, 0x76]
  | .bit6A => [0xCB, 0x77]
  | .bit7B => [0xCB, 0x78]
  | .bit7C => [0xCB, 0x79]
  | .bit7D => [0xCB, 0x7A]
  | .bit7E => [0xCB, 0x7B]
  | .bit7H => [0xCB, 0x7C]
  | .bit7L => [0xCB, 0x7D]
  | .bit7AtHl => [0xCB, 0x7E]
  | .bit7A => [0xCB, 0x7F]
  | .res0B => [0xCB, 0x80]
  | .res0C => [0xCB, 0x81]
  | .res0D => [0xCB, 0x82]
  | .res0E => [0xCB, 0x83]
  | .res0H => [0xCB, 0x84]
  | .res0L => [0xCB, 0x85]
  | .res0AtHl => [0xCB, 0x86]
  | .res0A => [0xCB, 0x87]
  | .res1B => [0xCB, 0x88]
  | .res1C => [0xCB, 0x89]
  | .res1D => [0xCB, 0x8A]
  | .res1E => [0xCB, 0x8B]
  | .res1H => [0xCB, 0x8C]
  | .res1L => [0xCB, 0x8D]
  | .res1AtHl => [0xCB, 0x8E]
  | .res1A => [0xCB, 0x8F]
  | .res2B => [0xCB, 0x90]
  | .res2C => [0xCB, 0x91]
  | .res2D => [0xCB, 0x92]
  | .res2E => [0xCB, 0x93]
  | .res2H => [0xCB, 0x94]
  | .res2L => [0xCB, 0x95]
  | .res2AtHl => [0xCB, 0x96]
  | .res2A => [0xCB, 0x97]
  | .res3B => [0xCB, 0x98]
  | .res3C => [0xCB, 0x99]
  | .res3D => [0xCB, 0x9A]
  | .res3E => [0xCB, 0x9B]
  | .res3H => [0xCB, 0x9C]
  | .res3L => [0xCB, 0x9D]
  | .res3AtHl => [0xCB, 0x9E]
  | .res3A => [0xCB, 0x9F]
  | .res4B => [0xCB, 0xA0]
  | .res4C => [0xCB, 0xA1]
  | .res4D => [0xCB, 0xA2]
  | .res4E => [0xCB, 0xA3]
  | .res4H => [0xCB, 0xA4]
  | .res4L => [0xCB, 0xA5]
  | .res4AtHl => [0xCB, 0xA6]
  | .res4A => [0xCB, 0xA7]
  | .res5B => [0xCB, 0xA8]
  | .res5C => [0xCB, 0xA9]
  | .res5D => [0xCB, 0xAA]
  | .res5E => [0xCB, 0xAB]
  | .res5H => [0xCB, 0xAC]
  | .res5L => [0xCB, 0xAD]
  | .res5AtHl => [0xCB, 0xAE]
  | .res5A => [0xCB, 0xAF]
  | .res6B => [0xCB, 0xB0]
  | .res6C => [0xCB, 0xB1]
  | .res6D => [0xCB, 0xB2]
  | .res6E => [0xCB, 0xB3]
  | .res6H => [0xCB, 0xB4]
  | .res6L => [0xCB, 0xB5]
  | .res6AtHl => [0xCB, 0xB6]
  | .res6A => [0xCB, 0xB7]
  | .res7B => [0xCB, 0xB8]
  | .res7C => [0xCB, 0xB9]
  | .res7D => [0xCB, 0xBA]
  | .res7E => [0xCB, 0xBB]
  | .res7H => [0xCB, 0xBC]
  | .res7L => [0xCB, 0xBD]
  | .res7AtHl => [0xCB, 0xBE]
  | .res7A => [0xCB, 0xBF]
  | .set0B => [0xCB, 0xC0]
  | .set0C => [0xCB, 0xC1]
  | .set0D => [0xCB, 0xC2]
  | .set0E => [0xCB, 0xC3]
  | .set0H => [0xCB, 0xC4]
  | .set0L => [0xCB, 0xC5]
  | .set0AtHl => [0xCB, 0xC6]
  | .set0A => [0xCB, 0xC7]
  | .set1B => [0xCB, 0xC8]
  | .set1C => [0xCB, 0xC9]
  | .set1D => [0xCB, 0xCA]
  | .set1E => [0xCB, 0xCB]
  | .set1H => [0xCB, 0xCC]
  | .set1L => [0xCB, 0xCD]
  | .set1AtHl => [0xCB, 0xCE]
  | .set1A => [0xCB, 0xCF]
  | .set2B => [0xCB, 0xD0]
  | .set2C => [0xCB, 0xD1]
  | .set2D => [0xCB, 0xD2]
  | .set2E => [0xCB, 0xD3]
  | .set2H => [0xCB, 0xD4]
  | .set2L => [0xCB, 0xD5]
  | .set2AtHl => [0xCB, 0xD6]
  | .set2A => [0xCB, 0xD7]
  | .set3B => [0xCB, 0xD8]
  | .set3C => [0xCB, 0xD9]
  | .set3D => [0xCB, 0xDA]
  | .set3E => [0xCB, 0xDB]
  | .set3H => [0xCB, 0xDC]
  | .set3L => [0xCB, 0xDD]
  | .set3AtHl => [0xCB, 0xDE]
  | .set3A => [0xCB, 0xDF]
  | .set4B => [0xCB, 0xE0]
  | .set4C => [0xCB, 0xE1]
  | .set4D => [0xCB, 0xE2]
  | .set4E => [0xCB, 0xE3]
  | .set4H => [0xCB, 0xE4]
  | .set4L => [0xCB, 0xE5]
  | .set4AtHl => [0xCB, 0xE6]
  | .set4A => [0xCB, 0xE7]
  | .set5B => [0xCB, 0xE8]
  | .set5C => [0xCB, 0xE9]
  | .set5D => [0xCB, 0xEA]
  | .set5E => [0xCB, 0xEB]
  | .set5H => [0xCB, 0xEC]
  | .set5L => [0xCB, 0xED]
  | .set5AtHl => [0xCB, 0xEE]
  | .set5A => [0xCB, 0xEF]
  | .set6B => [0xCB, 0xF0]
  | .set6C => [0xCB, 0xF1]
  | .set6D => [0xCB, 0xF2]
  | .set6E => [0xCB, 0xF3]
  | .set6H => [0xCB, 0xF4]
  | .set6L => [0xCB, 0xF5]
  | .set6AtHl => [0xCB, 0xF6]
  | .set6A => [0xCB, 0xF7]
  | .set7B => [0xCB, 0xF8]
  | .set7C => [0xCB, 0xF9]
  | .set7D => [0xCB, 0xFA]
  | .set7E => [0xCB, 0xFB]
  | .set7H => [0xCB, 0xFC]
  | .set7L => [0xCB, 0xFD]
  | .set7AtHl => [0xCB, 0xFE]
  | .set7A => [0xCB, 0xFF]

/-! ### The words of spec/opcode_table.json -/

/-- The three bytes that stand in memory, from the instruction's address on, for a word `w` of `nbits` bits as
spec/opcode_table.json numbers it. A base row is one opcode byte, and bytes above it count on from it. A CB row is ONE 16-bit number
whose HIGH byte, 0xCB, is the first in memory (R134: `byte0 << 8 | byte1`), so a 16-bit word whose bits 15..8 are 0xCB is laid out
that way. Every bit above `nbits` is 0 (DEDUCED, safe: notes/assumptions/8.md). -/
def tableBytes (nbits w : Nat) : List Byte :=
  let w' := w % 2 ^ nbits
  if nbits = 16 ∧ w' / 256 % 256 = 0xCB then [BitVec.ofNat 8 (w' / 256), BitVec.ofNat 8 w', 0]
  else [BitVec.ofNat 8 w', BitVec.ofNat 8 (w' / 256), BitVec.ofNat 8 (w' / 65536)]

/-- The instruction the decoder reads from a word of spec/opcode_table.json. -/
def decodeTableWord (nbits w : Nat) : Option Instr :=
  match decode (tableBytes nbits w) with
  | .ok (i, _) => some i
  | .error _ => none

/-! ### Every row of the two opcode maps

The opcode bytes are the positions of R130 and R131, the instructions the spec's own entries there; the operand bytes are 0x34 and
0x12. -/

/-- Row 0x of the map of R130. -/
theorem decode_base_row_0 :
    ∀ row ∈ ([
      (0x00, .nop), (0x01, .ldBcNn 0x1234), (0x02, .ldAtBcA), (0x03, .incBc),
      (0x04, .incB), (0x05, .decB), (0x06, .ldBN 0x34), (0x07, .rlcAcc),
      (0x08, .ldAtNnSp 0x1234), (0x09, .addHlBc), (0x0a, .ldAAtBc), (0x0b, .decBc),
      (0x0c, .incC), (0x0d, .decC), (0x0e, .ldCN 0x34), (0x0f, .rrcAcc)] : List (Byte × Instr)),
      decode [row.1, 0x34, 0x12] = .ok (row.2, [0x34, 0x12].drop (instrLength row.1 - 1)) := by decide

/-- Row 1x of the map of R130. -/
theorem decode_base_row_1 :
    ∀ row ∈ ([
      (0x10, .stop), (0x11, .ldDeNn 0x1234), (0x12, .ldAtDeA), (0x13, .incDe),
      (0x14, .incD), (0x15, .decD), (0x16, .ldDN 0x34), (0x17, .rlAcc),
      (0x18, .jrE 0x34), (0x19, .addHlDe), (0x1a, .ldAAtDe), (0x1b, .decDe),
      (0x1c, .incE), (0x1d, .decE), (0x1e, .ldEN 0x34), (0x1f, .rrAcc)] : List (Byte × Instr)),
      decode [row.1, 0x34, 0x12] = .ok (row.2, [0x34, 0x12].drop (instrLength row.1 - 1)) := by decide

/-- Row 2x of the map of R130. -/
theorem decode_base_row_2 :
    ∀ row ∈ ([
      (0x20, .jrNzE 0x34), (0x21, .ldHlNn 0x1234), (0x22, .ldAtHlIncA), (0x23, .incHl),
      (0x24, .incH), (0x25, .decH), (0x26, .ldHN 0x34), (0x27, .daa),
      (0x28, .jrZE 0x34), (0x29, .addHlHl), (0x2a, .ldAAtHlInc), (0x2b, .decHl),
      (0x2c, .incL), (0x2d, .decL), (0x2e, .ldLN 0x34), (0x2f, .cplAcc)] : List (Byte × Instr)),
      decode [row.1, 0x34, 0x12] = .ok (row.2, [0x34, 0x12].drop (instrLength row.1 - 1)) := by decide

/-- Row 3x of the map of R130. -/
theorem decode_base_row_3 :
    ∀ row ∈ ([
      (0x30, .jrNcE 0x34), (0x31, .ldSpNn 0x1234), (0x32, .ldAtHlDecA), (0x33, .incSp),
      (0x34, .incAtHl), (0x35, .decAtHl), (0x36, .ldAtHlN 0x34), (0x37, .scf),
      (0x38, .jrCE 0x34), (0x39, .addHlSp), (0x3a, .ldAAtHlDec), (0x3b, .decSp),
      (0x3c, .incA), (0x3d, .decA), (0x3e, .ldAN 0x34), (0x3f, .ccf)] : List (Byte × Instr)),
      decode [row.1, 0x34, 0x12] = .ok (row.2, [0x34, 0x12].drop (instrLength row.1 - 1)) := by decide

/-- Row 4x of the map of R130. -/
theorem decode_base_row_4 :
    ∀ row ∈ ([
      (0x40, .ldBB), (0x41, .ldBC), (0x42, .ldBD), (0x43, .ldBE),
      (0x44, .ldBH), (0x45, .ldBL), (0x46, .ldBAtHl), (0x47, .ldBA),
      (0x48, .ldCB), (0x49, .ldCC), (0x4a, .ldCD), (0x4b, .ldCE),
      (0x4c, .ldCH), (0x4d, .ldCL), (0x4e, .ldCAtHl), (0x4f, .ldCA)] : List (Byte × Instr)),
      decode [row.1, 0x34, 0x12] = .ok (row.2, [0x34, 0x12].drop (instrLength row.1 - 1)) := by decide

/-- Row 5x of the map of R130. -/
theorem decode_base_row_5 :
    ∀ row ∈ ([
      (0x50, .ldDB), (0x51, .ldDC), (0x52, .ldDD), (0x53, .ldDE),
      (0x54, .ldDH), (0x55, .ldDL), (0x56, .ldDAtHl), (0x57, .ldDA),
      (0x58, .ldEB), (0x59, .ldEC), (0x5a, .ldED), (0x5b, .ldEE),
      (0x5c, .ldEH), (0x5d, .ldEL), (0x5e, .ldEAtHl), (0x5f, .ldEA)] : List (Byte × Instr)),
      decode [row.1, 0x34, 0x12] = .ok (row.2, [0x34, 0x12].drop (instrLength row.1 - 1)) := by decide

/-- Row 6x of the map of R130. -/
theorem decode_base_row_6 :
    ∀ row ∈ ([
      (0x60, .ldHB), (0x61, .ldHC), (0x62, .ldHD), (0x63, .ldHE),
      (0x64, .ldHH), (0x65, .ldHL), (0x66, .ldHAtHl), (0x67, .ldHA),
      (0x68, .ldLB), (0x69, .ldLC), (0x6a, .ldLD), (0x6b, .ldLE),
      (0x6c, .ldLH), (0x6d, .ldLL), (0x6e, .ldLAtHl), (0x6f, .ldLA)] : List (Byte × Instr)),
      decode [row.1, 0x34, 0x12] = .ok (row.2, [0x34, 0x12].drop (instrLength row.1 - 1)) := by decide

/-- Row 7x of the map of R130. -/
theorem decode_base_row_7 :
    ∀ row ∈ ([
      (0x70, .ldAtHlB), (0x71, .ldAtHlC), (0x72, .ldAtHlD), (0x73, .ldAtHlE),
      (0x74, .ldAtHlH), (0x75, .ldAtHlL), (0x76, .halt), (0x77, .ldAtHlA),
      (0x78, .ldAB), (0x79, .ldAC), (0x7a, .ldAD), (0x7b, .ldAE),
      (0x7c, .ldAH), (0x7d, .ldAL), (0x7e, .ldAAtHl), (0x7f, .ldAA)] : List (Byte × Instr)),
      decode [row.1, 0x34, 0x12] = .ok (row.2, [0x34, 0x12].drop (instrLength row.1 - 1)) := by decide

/-- Row 8x of the map of R130. -/
theorem decode_base_row_8 :
    ∀ row ∈ ([
      (0x80, .addAB), (0x81, .addAC), (0x82, .addAD), (0x83, .addAE),
      (0x84, .addAH), (0x85, .addAL), (0x86, .addAAtHl), (0x87, .addAA),
      (0x88, .adcAB), (0x89, .adcAC), (0x8a, .adcAD), (0x8b, .adcAE),
      (0x8c, .adcAH), (0x8d, .adcAL), (0x8e, .adcAAtHl), (0x8f, .adcAA)] : List (Byte × Instr)),
      decode [row.1, 0x34, 0x12] = .ok (row.2, [0x34, 0x12].drop (instrLength row.1 - 1)) := by decide

/-- Row 9x of the map of R130. -/
theorem decode_base_row_9 :
    ∀ row ∈ ([
      (0x90, .subB), (0x91, .subC), (0x92, .subD), (0x93, .subE),
      (0x94, .subH), (0x95, .subL), (0x96, .subAtHl), (0x97, .subA),
      (0x98, .sbcAB), (0x99, .sbcAC), (0x9a, .sbcAD), (0x9b, .sbcAE),
      (0x9c, .sbcAH), (0x9d, .sbcAL), (0x9e, .sbcAAtHl), (0x9f, .sbcAA)] : List (Byte × Instr)),
      decode [row.1, 0x34, 0x12] = .ok (row.2, [0x34, 0x12].drop (instrLength row.1 - 1)) := by decide

/-- Row Ax of the map of R130. -/
theorem decode_base_row_a :
    ∀ row ∈ ([
      (0xa0, .andB), (0xa1, .andC), (0xa2, .andD), (0xa3, .andE),
      (0xa4, .andH), (0xa5, .andL), (0xa6, .andAtHl), (0xa7, .andA),
      (0xa8, .xorB), (0xa9, .xorC), (0xaa, .xorD), (0xab, .xorE),
      (0xac, .xorH), (0xad, .xorL), (0xae, .xorAtHl), (0xaf, .xorA)] : List (Byte × Instr)),
      decode [row.1, 0x34, 0x12] = .ok (row.2, [0x34, 0x12].drop (instrLength row.1 - 1)) := by decide

/-- Row Bx of the map of R130. -/
theorem decode_base_row_b :
    ∀ row ∈ ([
      (0xb0, .orB), (0xb1, .orC), (0xb2, .orD), (0xb3, .orE),
      (0xb4, .orH), (0xb5, .orL), (0xb6, .orAtHl), (0xb7, .orA),
      (0xb8, .cpB), (0xb9, .cpC), (0xba, .cpD), (0xbb, .cpE),
      (0xbc, .cpH), (0xbd, .cpL), (0xbe, .cpAtHl), (0xbf, .cpA)] : List (Byte × Instr)),
      decode [row.1, 0x34, 0x12] = .ok (row.2, [0x34, 0x12].drop (instrLength row.1 - 1)) := by decide

/-- Row Cx of the map of R130 (0xCB 0x34 is SWAP H by R131). -/
theorem decode_base_row_c :
    ∀ row ∈ ([
      (0xc0, .retNz), (0xc1, .popBc), (0xc2, .jpNzNn 0x1234), (0xc3, .jpNn 0x1234),
      (0xc4, .callNzNn 0x1234), (0xc5, .pushBc), (0xc6, .addAN 0x34), (0xc7, .rst00),
      (0xc8, .retZ), (0xc9, .ret), (0xca, .jpZNn 0x1234), (0xcb, .swapH),
      (0xcc, .callZNn 0x1234), (0xcd, .callNn 0x1234), (0xce, .adcAN 0x34), (0xcf, .rst08)] : List (Byte × Instr)),
      decode [row.1, 0x34, 0x12] = .ok (row.2, [0x34, 0x12].drop (instrLength row.1 - 1)) := by decide

/-- Row Dx of the map of R130. -/
theorem decode_base_row_d :
    ∀ row ∈ ([
      (0xd0, .retNc), (0xd1, .popDe), (0xd2, .jpNcNn 0x1234), (0xd3, .illegalD3),
      (0xd4, .callNcNn 0x1234), (0xd5, .pushDe), (0xd6, .subN 0x34), (0xd7, .rst10),
      (0xd8, .retC), (0xd9, .reti), (0xda, .jpCNn 0x1234), (0xdb, .illegalDB),
      (0xdc, .callCNn 0x1234), (0xdd, .illegalDD), (0xde, .sbcAN 0x34), (0xdf, .rst18)] : List (Byte × Instr)),
      decode [row.1, 0x34, 0x12] = .ok (row.2, [0x34, 0x12].drop (instrLength row.1 - 1)) := by decide

/-- Row Ex of the map of R130. -/
theorem decode_base_row_e :
    ∀ row ∈ ([
      (0xe0, .ldhAtNA 0x34), (0xe1, .popHl), (0xe2, .ldhAtCA), (0xe3, .illegalE3),
      (0xe4, .illegalE4), (0xe5, .pushHl), (0xe6, .andN 0x34), (0xe7, .rst20),
      (0xe8, .addSpE 0x34), (0xe9, .jpHl), (0xea, .ldAtNnA 0x1234), (0xeb, .illegalEB),
      (0xec, .illegalEC), (0xed, .illegalED), (0xee, .xorN 0x34), (0xef, .rst28)] : List (Byte × Instr)),
      decode [row.1, 0x34, 0x12] = .ok (row.2, [0x34, 0x12].drop (instrLength row.1 - 1)) := by decide

/-- Row Fx of the map of R130. -/
theorem decode_base_row_f :
    ∀ row ∈ ([
      (0xf0, .ldhAAtN 0x34), (0xf1, .popAf), (0xf2, .ldhAAtC), (0xf3, .di),
      (0xf4, .illegalF4), (0xf5, .pushAf), (0xf6, .orN 0x34), (0xf7, .rst30),
      (0xf8, .ldHlSpE 0x34), (0xf9, .ldSpHl), (0xfa, .ldAAtNn 0x1234), (0xfb, .ei),
      (0xfc, .illegalFC), (0xfd, .illegalFD), (0xfe, .cpN 0x34), (0xff, .rst38)] : List (Byte × Instr)),
      decode [row.1, 0x34, 0x12] = .ok (row.2, [0x34, 0x12].drop (instrLength row.1 - 1)) := by decide

/-- Row 0x of the CB map of R131. -/
theorem decode_cb_row_0 :
    ∀ row ∈ ([
      (0x00, .rlcB), (0x01, .rlcC), (0x02, .rlcD), (0x03, .rlcE),
      (0x04, .rlcH), (0x05, .rlcL), (0x06, .rlcAtHl), (0x07, .rlcA),
      (0x08, .rrcB), (0x09, .rrcC), (0x0a, .rrcD), (0x0b, .rrcE),
      (0x0c, .rrcH), (0x0d, .rrcL), (0x0e, .rrcAtHl), (0x0f, .rrcA)] : List (Byte × Instr)),
      decode [0xCB, row.1] = .ok (row.2, []) := by decide

/-- Row 1x of the CB map of R131. -/
theorem decode_cb_row_1 :
    ∀ row ∈ ([
      (0x10, .rlB), (0x11, .rlC), (0x12, .rlD), (0x13, .rlE),
      (0x14, .rlH), (0x15, .rlL), (0x16, .rlAtHl), (0x17, .rlA),
      (0x18, .rrB), (0x19, .rrC), (0x1a, .rrD), (0x1b, .rrE),
      (0x1c, .rrH), (0x1d, .rrL), (0x1e, .rrAtHl), (0x1f, .rrA)] : List (Byte × Instr)),
      decode [0xCB, row.1] = .ok (row.2, []) := by decide

/-- Row 2x of the CB map of R131. -/
theorem decode_cb_row_2 :
    ∀ row ∈ ([
      (0x20, .slaB), (0x21, .slaC), (0x22, .slaD), (0x23, .slaE),
      (0x24, .slaH), (0x25, .slaL), (0x26, .slaAtHl), (0x27, .slaA),
      (0x28, .sraB), (0x29, .sraC), (0x2a, .sraD), (0x2b, .sraE),
      (0x2c, .sraH), (0x2d, .sraL), (0x2e, .sraAtHl), (0x2f, .sraA)] : List (Byte × Instr)),
      decode [0xCB, row.1] = .ok (row.2, []) := by decide

/-- Row 3x of the CB map of R131. -/
theorem decode_cb_row_3 :
    ∀ row ∈ ([
      (0x30, .swapB), (0x31, .swapC), (0x32, .swapD), (0x33, .swapE),
      (0x34, .swapH), (0x35, .swapL), (0x36, .swapAtHl), (0x37, .swapA),
      (0x38, .srlB), (0x39, .srlC), (0x3a, .srlD), (0x3b, .srlE),
      (0x3c, .srlH), (0x3d, .srlL), (0x3e, .srlAtHl), (0x3f, .srlA)] : List (Byte × Instr)),
      decode [0xCB, row.1] = .ok (row.2, []) := by decide

/-- Row 4x of the CB map of R131. -/
theorem decode_cb_row_4 :
    ∀ row ∈ ([
      (0x40, .bit0B), (0x41, .bit0C), (0x42, .bit0D), (0x43, .bit0E),
      (0x44, .bit0H), (0x45, .bit0L), (0x46, .bit0AtHl), (0x47, .bit0A),
      (0x48, .bit1B), (0x49, .bit1C), (0x4a, .bit1D), (0x4b, .bit1E),
      (0x4c, .bit1H), (0x4d, .bit1L), (0x4e, .bit1AtHl), (0x4f, .bit1A)] : List (Byte × Instr)),
      decode [0xCB, row.1] = .ok (row.2, []) := by decide

/-- Row 5x of the CB map of R131. -/
theorem decode_cb_row_5 :
    ∀ row ∈ ([
      (0x50, .bit2B), (0x51, .bit2C), (0x52, .bit2D), (0x53, .bit2E),
      (0x54, .bit2H), (0x55, .bit2L), (0x56, .bit2AtHl), (0x57, .bit2A),
      (0x58, .bit3B), (0x59, .bit3C), (0x5a, .bit3D), (0x5b, .bit3E),
      (0x5c, .bit3H), (0x5d, .bit3L), (0x5e, .bit3AtHl), (0x5f, .bit3A)] : List (Byte × Instr)),
      decode [0xCB, row.1] = .ok (row.2, []) := by decide

/-- Row 6x of the CB map of R131. -/
theorem decode_cb_row_6 :
    ∀ row ∈ ([
      (0x60, .bit4B), (0x61, .bit4C), (0x62, .bit4D), (0x63, .bit4E),
      (0x64, .bit4H), (0x65, .bit4L), (0x66, .bit4AtHl), (0x67, .bit4A),
      (0x68, .bit5B), (0x69, .bit5C), (0x6a, .bit5D), (0x6b, .bit5E),
      (0x6c, .bit5H), (0x6d, .bit5L), (0x6e, .bit5AtHl), (0x6f, .bit5A)] : List (Byte × Instr)),
      decode [0xCB, row.1] = .ok (row.2, []) := by decide

/-- Row 7x of the CB map of R131. -/
theorem decode_cb_row_7 :
    ∀ row ∈ ([
      (0x70, .bit6B), (0x71, .bit6C), (0x72, .bit6D), (0x73, .bit6E),
      (0x74, .bit6H), (0x75, .bit6L), (0x76, .bit6AtHl), (0x77, .bit6A),
      (0x78, .bit7B), (0x79, .bit7C), (0x7a, .bit7D), (0x7b, .bit7E),
      (0x7c, .bit7H), (0x7d, .bit7L), (0x7e, .bit7AtHl), (0x7f, .bit7A)] : List (Byte × Instr)),
      decode [0xCB, row.1] = .ok (row.2, []) := by decide

/-- Row 8x of the CB map of R131. -/
theorem decode_cb_row_8 :
    ∀ row ∈ ([
      (0x80, .res0B), (0x81, .res0C), (0x82, .res0D), (0x83, .res0E),
      (0x84, .res0H), (0x85, .res0L), (0x86, .res0AtHl), (0x87, .res0A),
      (0x88, .res1B), (0x89, .res1C), (0x8a, .res1D), (0x8b, .res1E),
      (0x8c, .res1H), (0x8d, .res1L), (0x8e, .res1AtHl), (0x8f, .res1A)] : List (Byte × Instr)),
      decode [0xCB, row.1] = .ok (row.2, []) := by decide

/-- Row 9x of the CB map of R131. -/
theorem decode_cb_row_9 :
    ∀ row ∈ ([
      (0x90, .res2B), (0x91, .res2C), (0x92, .res2D), (0x93, .res2E),
      (0x94, .res2H), (0x95, .res2L), (0x96, .res2AtHl), (0x97, .res2A),
      (0x98, .res3B), (0x99, .res3C), (0x9a, .res3D), (0x9b, .res3E),
      (0x9c, .res3H), (0x9d, .res3L), (0x9e, .res3AtHl), (0x9f, .res3A)] : List (Byte × Instr)),
      decode [0xCB, row.1] = .ok (row.2, []) := by decide

/-- Row Ax of the CB map of R131. -/
theorem decode_cb_row_a :
    ∀ row ∈ ([
      (0xa0, .res4B), (0xa1, .res4C), (0xa2, .res4D), (0xa3, .res4E),
      (0xa4, .res4H), (0xa5, .res4L), (0xa6, .res4AtHl), (0xa7, .res4A),
      (0xa8, .res5B), (0xa9, .res5C), (0xaa, .res5D), (0xab, .res5E),
      (0xac, .res5H), (0xad, .res5L), (0xae, .res5AtHl), (0xaf, .res5A)] : List (Byte × Instr)),
      decode [0xCB, row.1] = .ok (row.2, []) := by decide

/-- Row Bx of the CB map of R131. -/
theorem decode_cb_row_b :
    ∀ row ∈ ([
      (0xb0, .res6B), (0xb1, .res6C), (0xb2, .res6D), (0xb3, .res6E),
      (0xb4, .res6H), (0xb5, .res6L), (0xb6, .res6AtHl), (0xb7, .res6A),
      (0xb8, .res7B), (0xb9, .res7C), (0xba, .res7D), (0xbb, .res7E),
      (0xbc, .res7H), (0xbd, .res7L), (0xbe, .res7AtHl), (0xbf, .res7A)] : List (Byte × Instr)),
      decode [0xCB, row.1] = .ok (row.2, []) := by decide

/-- Row Cx of the CB map of R131. -/
theorem decode_cb_row_c :
    ∀ row ∈ ([
      (0xc0, .set0B), (0xc1, .set0C), (0xc2, .set0D), (0xc3, .set0E),
      (0xc4, .set0H), (0xc5, .set0L), (0xc6, .set0AtHl), (0xc7, .set0A),
      (0xc8, .set1B), (0xc9, .set1C), (0xca, .set1D), (0xcb, .set1E),
      (0xcc, .set1H), (0xcd, .set1L), (0xce, .set1AtHl), (0xcf, .set1A)] : List (Byte × Instr)),
      decode [0xCB, row.1] = .ok (row.2, []) := by decide

/-- Row Dx of the CB map of R131. -/
theorem decode_cb_row_d :
    ∀ row ∈ ([
      (0xd0, .set2B), (0xd1, .set2C), (0xd2, .set2D), (0xd3, .set2E),
      (0xd4, .set2H), (0xd5, .set2L), (0xd6, .set2AtHl), (0xd7, .set2A),
      (0xd8, .set3B), (0xd9, .set3C), (0xda, .set3D), (0xdb, .set3E),
      (0xdc, .set3H), (0xdd, .set3L), (0xde, .set3AtHl), (0xdf, .set3A)] : List (Byte × Instr)),
      decode [0xCB, row.1] = .ok (row.2, []) := by decide

/-- Row Ex of the CB map of R131. -/
theorem decode_cb_row_e :
    ∀ row ∈ ([
      (0xe0, .set4B), (0xe1, .set4C), (0xe2, .set4D), (0xe3, .set4E),
      (0xe4, .set4H), (0xe5, .set4L), (0xe6, .set4AtHl), (0xe7, .set4A),
      (0xe8, .set5B), (0xe9, .set5C), (0xea, .set5D), (0xeb, .set5E),
      (0xec, .set5H), (0xed, .set5L), (0xee, .set5AtHl), (0xef, .set5A)] : List (Byte × Instr)),
      decode [0xCB, row.1] = .ok (row.2, []) := by decide

/-- Row Fx of the CB map of R131. -/
theorem decode_cb_row_f :
    ∀ row ∈ ([
      (0xf0, .set6B), (0xf1, .set6C), (0xf2, .set6D), (0xf3, .set6E),
      (0xf4, .set6H), (0xf5, .set6L), (0xf6, .set6AtHl), (0xf7, .set6A),
      (0xf8, .set7B), (0xf9, .set7C), (0xfa, .set7D), (0xfb, .set7E),
      (0xfc, .set7H), (0xfd, .set7L), (0xfe, .set7AtHl), (0xff, .set7A)] : List (Byte × Instr)),
      decode [0xCB, row.1] = .ok (row.2, []) := by decide

end Sys2Proof
end

