-- ==== Sys2Proof/Machine/System.lean ====
section
/-! DEFINITION. The system instructions, the CB prefix and the unassigned opcodes (45_system.md R330 to R336). Each instruction has a definition of its own over the shared operations; the state it is
given has PC = pc0, the address of its opcode. -/

namespace Sys2Proof.Machine

/-! ### Shared operations -/

/-- The CB prefix (R335): the rule of 43_rotate_shift_bit.md that the fields of the CB opcode select. -/
def State.runCb (s : State) (op2 : Byte) : State :=
  match fieldX op2 with
  | 0 => s.rotateOperand (rotSel (fieldY op2)) (reg8Sel (fieldZ op2))
  | 1 => s.testBit (fieldY op2) (reg8Sel (fieldZ op2))
  | 2 => s.resetBit (fieldY op2) (reg8Sel (fieldZ op2))
  | 3 => s.assignBit (fieldY op2) (reg8Sel (fieldZ op2))

/-! ### The instructions -/

/-- NOP (R330). -/
def execNop (s : State) : Result := .next (s.retire 1 4)

/-- STOP (R332). -/
def execStop (s : State) : Result := .next (s.raiseFatal .stop 0x10)

/-- HALT (R331). -/
def execHalt (s : State) : Result := .next { s.retire 1 4 with halted := true }

/-- PREFIX CB (R335). -/
def execPrefixCb (op2 : Byte) (s : State) : Result := .next (s.runCb op2)

/-- ILLEGAL_D3 (R336). -/
def execIllegalD3 (s : State) : Result := .next (s.raiseFatal .unassigned 0xD3)

/-- ILLEGAL_DB (R336). -/
def execIllegalDB (s : State) : Result := .next (s.raiseFatal .unassigned 0xDB)

/-- ILLEGAL_DD (R336). -/
def execIllegalDD (s : State) : Result := .next (s.raiseFatal .unassigned 0xDD)

/-- ILLEGAL_E3 (R336). -/
def execIllegalE3 (s : State) : Result := .next (s.raiseFatal .unassigned 0xE3)

/-- ILLEGAL_E4 (R336). -/
def execIllegalE4 (s : State) : Result := .next (s.raiseFatal .unassigned 0xE4)

/-- ILLEGAL_EB (R336). -/
def execIllegalEB (s : State) : Result := .next (s.raiseFatal .unassigned 0xEB)

/-- ILLEGAL_EC (R336). -/
def execIllegalEC (s : State) : Result := .next (s.raiseFatal .unassigned 0xEC)

/-- ILLEGAL_ED (R336). -/
def execIllegalED (s : State) : Result := .next (s.raiseFatal .unassigned 0xED)

/-- DI (R333). -/
def execDi (s : State) : Result := .next { s.retire 1 4 with ime := false, eiDelay := 0 }

/-- ILLEGAL_F4 (R336). -/
def execIllegalF4 (s : State) : Result := .next (s.raiseFatal .unassigned 0xF4)

/-- EI (R334). -/
def execEi (s : State) : Result := .next { s.retire 1 4 with eiDelay := if s.eiDelay = 0 then 2 else s.eiDelay }

/-- ILLEGAL_FC (R336). -/
def execIllegalFC (s : State) : Result := .next (s.raiseFatal .unassigned 0xFC)

/-- ILLEGAL_FD (R336). -/
def execIllegalFD (s : State) : Result := .next (s.raiseFatal .unassigned 0xFD)

end Sys2Proof.Machine
end

