-- ==== Sys2Proof/Machine/Render.lean ====
section
/-! DEFINITION. RenderLine, the per-scanline renderer (60_exceptions.md R420 to R424). It reads registers, VRAM and OAM directly, with
no side effect, and writes one line of the framebuffer. -/

namespace Sys2Proof.Machine

/-! ### Tiles and palettes -/

/-- The VRAM byte at an address of 0x8000-0x9FFF. -/
def State.vramAt (s : State) (addr : Nat) : Byte := s.vram.read (addr - 0x8000)

/-- The 2-bit colour index of bit b of a tile row: `(hi[b] << 1) | lo[b]` (R420, R422). -/
def colourIndex (lo hi : Byte) (b : Nat) : Nat := 2 * (hi.getLsbD b).toNat + (lo.getLsbD b).toNat

/-- The shade a palette register gives a colour index: `(P >> (2 * ci)) & 3` (R420, R422). -/
def paletteShade (palette : Byte) (ci : Nat) : Nat := palette.toNat / 2 ^ (2 * ci) % 4

/-! ### Background and window (R420) -/

/-- The column x of line ly lies in the window (R420). -/
def State.inWindow (s : State) (ly x : Nat) : Bool :=
  s.ppu.lcdc[5] && decide (s.ppu.wy.toNat ≤ ly) && decide (s.ppu.wx.toNat ≤ x + 7)

/-- The address of row py's first byte in the tile data of tile t: 0x8000 + 16 t with t unsigned, or 0x9000 + 16 t with t signed
(LCDC[4]). -/
def State.tileRow (s : State) (t : Byte) (row : Nat) : Nat :=
  (if s.ppu.lcdc[4] then 0x8000 + 16 * t.toNat
   else if t.toNat < 128 then 0x9000 + 16 * t.toNat
   else 0x9000 - 16 * (256 - t.toNat)) + 2 * row

/-- The colour index of pixel (px, py) of the tile map at `map` (R420). -/
def State.mapPixel (s : State) (map px py : Nat) : Nat :=
  let t := s.vramAt (map + py / 8 * 32 + px / 8)
  let row := s.tileRow t (py % 8)
  colourIndex (s.vramAt row) (s.vramAt (row + 1)) (7 - px % 8)

/-- `bg_shade[x]` (R420): the shade of the background or window at a column. -/
def State.bgShade (s : State) (ly x : Nat) : Nat :=
  if s.ppu.lcdc[0] = false then 0
  else
    let ci :=
      if s.inWindow ly x then
        s.mapPixel (if s.ppu.lcdc[6] then 0x9C00 else 0x9800) (x + 7 - s.ppu.wx.toNat) (ly - s.ppu.wy.toNat)
      else
        s.mapPixel (if s.ppu.lcdc[3] then 0x9C00 else 0x9800) ((x + s.ppu.scx.toNat) % 256)
          ((ly + s.ppu.scy.toNat) % 256)
    paletteShade s.ppu.bgp ci

/-! ### Objects (R421 to R424) -/

/-- An entry of OAM (R424): the bytes as stored, so `y` is Y + 16 and `x` is X + 8. -/
structure ObjEntry where
  y : Byte
  x : Byte
  tile : Byte
  flags : Byte
  deriving DecidableEq, Repr

/-- OAM entry k (R424). -/
def State.objEntry (s : State) (k : Nat) : ObjEntry where
  y := s.oam.read (4 * k)
  x := s.oam.read (4 * k + 1)
  tile := s.oam.read (4 * k + 2)
  flags := s.oam.read (4 * k + 3)

/-- The height of objects: 8 or 16 lines (LCDC[2]). -/
def State.objHeight (s : State) : Nat := if s.ppu.lcdc[2] then 16 else 8

/-- `Y_k <= ly < Y_k + h` (R421), both sides raised by 16. -/
def ObjEntry.covers (o : ObjEntry) (h ly : Nat) : Bool := decide (o.y.toNat ≤ ly + 16) && decide (ly + 16 < o.y.toNat + h)

/-- Inserting an entry before the first one further right: with entries taken from the last to the first, ties keep OAM order. -/
def insertByX (o : ObjEntry) : List ObjEntry → List ObjEntry
  | [] => [o]
  | p :: ps => if o.x.toNat ≤ p.x.toNat then o :: p :: ps else p :: insertByX o ps

/-- The selected objects of a line, the highest priority first (R421): the first 10 covering entries in OAM order, by increasing X
and then by OAM order; none when objects are disabled. -/
def State.selectObjects (s : State) (ly : Nat) : List ObjEntry :=
  if s.ppu.lcdc[1] then
    (((List.range 40).map s.objEntry).filter (fun o => o.covers s.objHeight ly)).take 10 |>.foldr insertByX []
  else []

/-- The colour index of an object at column x of line ly, when the object covers the column (R422). -/
def State.objPixel (s : State) (o : ObjEntry) (ly x : Nat) : Nat :=
  let h := s.objHeight
  let r := ly + 16 - o.y.toNat
  let row := if o.flags[6] then h - 1 - r else r
  let tile := if h = 16 then o.tile &&& 0xFE else o.tile
  let addr := 0x8000 + 16 * tile.toNat + 2 * row
  let j := x + 8 - o.x.toNat
  colourIndex (s.vramAt addr) (s.vramAt (addr + 1)) (if o.flags[5] then j else 7 - j)

/-- The object covers column x (R422: columns X to X + 7) and its pixel there is not transparent. -/
def State.objOpaque (s : State) (o : ObjEntry) (ly x : Nat) : Bool :=
  decide (o.x.toNat ≤ x + 8) && decide (x + 8 < o.x.toNat + 8) && decide (s.objPixel o ly x ≠ 0)

/-- The shade that ends up at a column of a line (R423): that of the highest-priority opaque object, unless it asks for background
priority over a background that is not the lightest shade; without an object, the background's. -/
def State.pixelShade (s : State) (objects : List ObjEntry) (ly x : Nat) : Nat :=
  let bg := s.bgShade ly x
  match objects.find? (fun o => s.objOpaque o ly x) with
  | none => bg
  | some o =>
    if o.flags[7] && decide (bg ≠ 0) then bg
    else paletteShade (if o.flags[4] then s.ppu.obp1 else s.ppu.obp0) (s.objPixel o ly x)

/-- The RGBA bytes of a line, from column 0 on. -/
def State.lineRgba (s : State) (ly : Nat) : List Byte :=
  let objects := s.selectObjects ly
  (List.range screenWidth).flatMap (fun x => shadeRgba (s.pixelShade objects ly x))

/-- RenderLine(ly) (R420 to R423): the line's bytes in the framebuffer, at offset `(ly * 160 + x) * 4` for column x
(DEDUCED, safe: notes/assumptions/11.md). -/
def State.renderLine (s : State) (ly : Nat) : State :=
  { s with ppu.framebuffer := s.ppu.framebuffer.writeRange (ly * lineBytes) (s.lineRgba ly) }

end Sys2Proof.Machine
end

