-- ==== Sys2Proof/Machine/Pixels.lean ====
section
/-! DEFINITION. The timing state machine of the pixel pipeline (60_exceptions.md R410 to R414). -/

namespace Sys2Proof.Machine

/-- The STAT interrupt source of a mode is enabled (R411): STAT[3] for mode 0, STAT[4] for mode 1, STAT[5] for mode 2, none for
mode 3. The stored bits are STAT[7:3]. -/
def Ppu.modeSource (p : Ppu) : PpuMode → Bool
  | .hblank => p.stat[0]
  | .vblank => p.stat[1]
  | .oamScan => p.stat[2]
  | .drawing => false

/-- SetMode(m) (R411). -/
def State.setMode (s : State) (m : PpuMode) : State :=
  { s with ppu.mode := m, intFlag := if s.ppu.modeSource m then s.intFlag ||| 0x02 else s.intFlag }

/-- SetLY(n) (R412): the coincidence is recomputed here and nowhere else; its source is STAT[6]. -/
def State.setLy (s : State) (n : Byte) : State :=
  { s with
    ppu.ly := n
    ppu.lycEq := n == s.ppu.lyc
    intFlag := if (n == s.ppu.lyc) && s.ppu.stat[3] then s.intFlag ||| 0x02 else s.intFlag }

/-- DisplayOff() (R413). -/
def State.displayOff (s : State) : State :=
  { s with ppu.off := true, ppu.ly := 0, ppu.mode := .hblank, ppu.clock := 0 }

/-- DisplayOn() (R413). -/
def State.displayOn (s : State) : State :=
  { s with ppu.off := false, ppu.mode := .oamScan, ppu.clock := 0, ppu.ly := 0 }

/-- The end of a stay in the current mode (R410), whose cycles are already taken off the clock: the next mode, LY, the requests,
and the line rendered at the end of drawing. -/
def State.leaveMode (s : State) : State :=
  match s.ppu.mode with
  | .oamScan => s.setMode .drawing
  | .drawing => (s.renderLine s.ppu.ly.toNat).setMode .hblank
  | .hblank =>
    let s' := s.setLy (s.ppu.ly + 1)
    if s'.ppu.ly = firstVblankLine then
      let s'' := s'.setMode .vblank
      { s'' with intFlag := s''.intFlag ||| 0x01 }
    else s'.setMode .oamScan
  | .vblank => if s.ppu.ly = lastLine then (s.setLy 0).setMode .oamScan else s.setLy (s.ppu.ly + 1)

/-- The loop of AdvancePPU (R410), at most `fuel` times round: while the clock has reached the mode's budget, the budget is taken
off and the mode is left. -/
def State.ppuLoop : Nat → State → State
  | 0, s => s
  | fuel + 1, s =>
    if s.ppu.clock < modeCycles s.ppu.mode then s
    else State.ppuLoop fuel ({ s with ppu.clock := s.ppu.clock - modeCycles s.ppu.mode } : State).leaveMode

/-- AdvancePPU(c) (R410). A time round the loop takes at least 80 cycles off the clock, so `clock / 80 + 1` times are enough
(DEDUCED, safe: notes/assumptions/10.md). -/
def State.advancePpu (s : State) (cycles : Nat) : State :=
  if s.ppu.lcdc[7] = false then s.displayOff
  else
    let s1 := if s.ppu.off then s.displayOn else s
    let s2 : State := { s1 with ppu.clock := s1.ppu.clock + cycles }
    State.ppuLoop (s2.ppu.clock / 80 + 1) s2

end Sys2Proof.Machine
end

