-- ==== Sys2Proof/Machine/Timers.lean ====
section
/-! DEFINITION. The timer and divider (60_exceptions.md R400 to R402). -/

namespace Sys2Proof.Machine

/-- The divider's part of AdvanceTimer (R400): DIV counts once per 256 cycles, the accumulator keeps the rest
(DEDUCED, safe: notes/assumptions/10.md). -/
def State.advanceDiv (s : State) (cycles : Nat) : State :=
  { s with
    timer.div := s.timer.div + BitVec.ofNat 8 ((s.timer.divAcc + cycles) / divPeriod)
    timer.divAcc := (s.timer.divAcc + cycles) % divPeriod }

/-- One increment of TIMA (R400): at an overflow it reloads from TMA and raises the timer request. -/
def State.tickTima (s : State) : State :=
  if s.timer.tima = 0xFF then { s with timer.tima := s.timer.tma, intFlag := s.intFlag ||| 0x04 }
  else { s with timer.tima := s.timer.tima + 1 }

/-- Some increments of TIMA, one after the other. -/
def State.tickTimas : Nat → State → State
  | 0, s => s
  | n + 1, s => State.tickTimas n s.tickTima

/-- The timer's part of AdvanceTimer (R400): while TAC[2] = 1, TIMA counts once per period; while it is 0, nothing changes. -/
def State.advanceTima (s : State) (cycles : Nat) : State :=
  if s.timer.tac[2] then
    let acc := s.timer.timaAcc + cycles
    State.tickTimas (acc / timerPeriod s.timer.tac) { s with timer.timaAcc := acc % timerPeriod s.timer.tac }
  else s

/-- AdvanceTimer(c) (R400). -/
def State.advanceTimer (s : State) (cycles : Nat) : State := (s.advanceDiv cycles).advanceTima cycles

end Sys2Proof.Machine
end

