-- ==== Sys2Proof/Machine/Driver.lean ====
section
/-! DEFINITION. The parts of the driver step (60_exceptions.md R350 to R365) around the execution of an instruction: the host input,
the boot check, the fetch, the EI countdown, the devices and the interrupt check. -/

namespace Sys2Proof.Machine

/-- JOYP_INPUT of this step (R351): the next byte the host supplies, or the last one again. -/
def State.takeInput (s : State) : State :=
  match s.joypQueue with
  | [] => s
  | input :: rest => { s with joypInput := input, joypQueue := rest }

/-- BootCheck (R71): the overlay goes when a step starts at 0x0100. -/
def State.bootCheck (s : State) : State :=
  if s.bootActive = true ∧ s.regs.pc = 0x0100 then { s with bootActive := false } else s

/-- What a step does before it looks at `halted` (R350, R351). -/
def State.beginStep (s : State) : State := s.takeInput.bootCheck

/-- `count` bytes from an address on, read one after the other (R109: a fetch is an ordinary MemRead). -/
def State.readBytes : Nat → Word → State → List Byte × State
  | 0, _, s => ([], s)
  | count + 1, a, s =>
    let (rest, s') := State.readBytes count (a + 1) (s.afterRead a)
    (s.readByte a :: rest, s')

/-- The bytes of the instruction at PC (R120): the opcode, then as many operand bytes as it asks for. PC is not moved here: a
meaning is given PC = pc0 and moves it itself (DEDUCED, safe: notes/assumptions/7.md). -/
def State.fetchBytes (s : State) : List Byte × State :=
  State.readBytes (instrLength (s.readByte s.regs.pc)) s.regs.pc s

/-- The instruction at PC, and the state after its bytes are read (R134). -/
def State.fetch (s : State) : Instr × State :=
  (decodeAt (s.fetchBytes.1.getD 0 0) (s.fetchBytes.1.getD 1 0) (s.fetchBytes.1.getD 2 0), s.fetchBytes.2)

/-- EiCountdown (R356). -/
def State.eiCountdown (s : State) : State :=
  if s.eiDelay = 0 then s
  else { s with eiDelay := s.eiDelay - 1, ime := if s.eiDelay = 1 then true else s.ime }

/-- AdvanceTimer(c), then AdvancePPU(c) (R350). -/
def State.advance (s : State) (cycles : Nat) : State := (s.advanceTimer cycles).advancePpu cycles

/-- `IE & IF & 0x1F` (R362). -/
def State.pending (s : State) : Byte := s.intEnable &&& s.intFlag &&& 0x1F

/-- The lowest set bit of a byte of requests (R362, R363); 4 when only bit 4 is set. -/
def lowestRequest (pending : Byte) : Nat :=
  if pending[0] then 0 else if pending[1] then 1 else if pending[2] then 2 else if pending[3] then 3 else 4

/-- What an interrupt check found (R362). -/
inductive CheckResult where
  | dispatched
  | woken
  | idle
  deriving DecidableEq, Repr

/-- InterruptCheck (R362, R364). -/
def State.interruptCheck (s : State) : CheckResult × State :=
  if s.ime = true ∧ s.pending ≠ 0 then (.dispatched, s.dispatch (lowestRequest s.pending))
  else if s.ime = false ∧ s.halted = true ∧ s.pending ≠ 0 then (.woken, { s with halted := false })
  else (.idle, s)

/-- The interrupt check at the end of a step; a dispatch costs DISPATCH_CYCLES more, which the devices advance by (R350). -/
def State.interruptPhase (s : State) : State :=
  match s.interruptCheck with
  | (.dispatched, s') => ({ s' with cycles := s'.cycles + dispatchCycles } : State).advance dispatchCycles
  | (.woken, s') => s'
  | (.idle, s') => s'

/-- HaltedStep (R352): no opcode is fetched, the devices advance by HALT_SLICE, and the EI countdown does not run. -/
def State.haltedStep (s : State) : State :=
  ((s.spend haltSlice).advance haltSlice).interruptPhase

/-- The rest of a step after its instruction has executed (R350); a Fatal condition has ended the step already (R390). -/
def State.finishStep (s : State) : State :=
  if s.fatal = none then (s.eiCountdown.advance s.cycles).interruptPhase else s

end Sys2Proof.Machine
end

