-- ==== Sys2Proof/Machine/Step.lean ====
section
/-! DEFINITION. One step (60_exceptions.md R350), and the placing of an instruction where the next step fetches it. -/

namespace Sys2Proof.Machine

/-- Step() (R350). It is enabled only while no Fatal condition is recorded (R390); a step that starts halted executes nothing
(R352). -/
def step (s : State) : Host.Outcome State Fault Refusal :=
  match s.fatal with
  | some record => .fault (.fatalState record)
  | none =>
    if s.beginStep.halted = true then .next s.beginStep.haltedStep
    else
      match exec s.beginStep.fetch.1 s.beginStep.fetch.2 with
      | .next t => .next t.finishStep
      | .fault r => .fault r
      | .refused r => .refused r

/-- `s` with bytes placed from an address on (`State.place`). -/
def State.placeBytes (s : State) (a : Word) : List Byte → State
  | [] => s
  | v :: bytes => (s.place a v).placeBytes (a + 1) bytes

/-- `s` with the instruction of a word of spec/opcode_table.json (`tableBytes`) stored at PC, where the next step fetches; a step is
made to fetch there by clearing `halted` and `fatal`. The bytes go into the storage that a read of PC reaches: at reset, the boot
program's first bytes. At a PC without storage (disabled external RAM, 0xFEA0-0xFEFF, an I/O register) nothing can be placed
(DESIGN CHOICE, safe: notes/assumptions/14.md). -/
def State.withFetchWord (s : State) (nbits w : Nat) : State :=
  ({ s with halted := false, fatal := none } : State).placeBytes s.regs.pc (tableBytes nbits w)

end Sys2Proof.Machine
end

