-- ==== Sys2Proof/Machine/Load.lean ====
section
/-! DEFINITION. Cartridge load, the only way a machine is created (70_reset_and_hazards.md R453; 20_memory.md R84, R85). -/

namespace Sys2Proof.Machine

/-- Why a load is refused (R453, R84, R85): no machine is created. Raised by `load` alone. -/
inductive LoadError where
  /-- The boot image is not 256 bytes. -/
  | badBoot
  /-- The cartridge image is shorter than 0x150 bytes. -/
  | shortImage
  /-- The type code at 0x0147 names no controller of R84. -/
  | unknownController
  /-- The ROM size code at 0x0148 is above 8, or is not 0 for the direct controller. -/
  | badRomSize
  /-- The image length is not ROM_BANKS * 0x4000. -/
  | badImageLength
  /-- The RAM size code at 0x0149 is above 5. -/
  | badRamSize
  deriving DecidableEq, Repr

/-- SelectController (R84), with its registers as at reset (R450). -/
def selectController (code : Byte) : Option Controller :=
  let code := code.toNat
  if code = 0x00 ∨ code = 0x08 ∨ code = 0x09 then some .direct
  else if 0x01 ≤ code ∧ code ≤ 0x03 then some (.mbc1 { ramEnable := false, bank1 := 0, bank2 := 0, mode := 0 })
  else if 0x0F ≤ code ∧ code ≤ 0x13 then some (.mbc3 { ramEnable := false, romBank := 0, ramBank := 0 })
  else none

/-- ROM_BANKS (R85): `2 << n` for n <= 8. -/
def romBanksOf (code : Byte) : Option Nat := if code.toNat ≤ 8 then some (2 * 2 ^ code.toNat) else none

/-- RAM_SIZE (R85). -/
def ramSizeOf (code : Byte) : Option Nat :=
  match code.toNat with
  | 0 => some 0
  | 1 => some 0x800
  | 2 => some 0x2000
  | 3 => some 0x8000
  | 4 => some 0x20000
  | 5 => some 0x10000
  | _ => none

/-- RAM_BANKS (R85). -/
def ramBanksOf (ramSize : Nat) : Nat := if ramSize = 0 then 0 else max 1 (ramSize / 0x2000)

/-- Load(CART_IMAGE, BOOT_ROM) (R453), with INIT_MEM as its third argument (DEDUCED, safe: notes/assumptions/13.md). -/
def load (cart boot : List Byte) (init : InitMem) : Except LoadError State :=
  if boot.length ≠ 0x100 then .error .badBoot
  else if cart.length < 0x150 then .error .shortImage
  else
    match selectController (cart.getD 0x147 0) with
    | none => .error .unknownController
    | some controller =>
      match romBanksOf (cart.getD 0x148 0) with
      | none => .error .badRomSize
      | some romBanks =>
        if controller = .direct ∧ cart.getD 0x148 0 ≠ 0 then .error .badRomSize
        else if cart.length ≠ romBanks * 0x4000 then .error .badImageLength
        else
          match ramSizeOf (cart.getD 0x149 0) with
          | none => .error .badRamSize
          | some ramSize =>
            .ok
              (State.afterLoad
                { controller := controller, romBanks := romBanks, ramSize := ramSize, ramBanks := ramBanksOf ramSize
                  rom := Memory.ofBytes cart, eram := [] }
                (Memory.ofBytes boot) (cart.getD 0x14D 0) init)

end Sys2Proof.Machine
end

