-- ==== Sys2Proof/Safety.lean ====
section
/-! DEFINITION. What a sound state and a successful run are, in the terms the claims use: the ranges and relations the spec gives for
state that its rules keep, what a host does with the machine (70_reset_and_hazards.md R470), and the terms the statements are
written in: the codes of the selectors, the operand forms, which addresses an instruction stores to, which instructions write flags. -/

namespace Sys2Proof.Machine

/-! ### Sound states -/

/-- Every storage is in canonical form and inside its size (R32; R6 for the framebuffer). -/
abbrev State.StorageOk (s : State) : Prop :=
  (s.boot.Wf ∧ s.boot.Within 0x100) ∧ (s.vram.Wf ∧ s.vram.Within 0x2000) ∧ (s.wram.Wf ∧ s.wram.Within 0x2000) ∧
  (s.oam.Wf ∧ s.oam.Within 0xA0) ∧ (s.io.Wf ∧ s.io.Within 0x80) ∧ (s.hram.Wf ∧ s.hram.Within 0x7F) ∧
  (s.ppu.framebuffer.Wf ∧ s.ppu.framebuffer.Within (160 * 144 * 4))

/-- The size of the external RAM's storage: the direct controller's is 0x2000 bytes whatever RAM_SIZE is (R32, R85). -/
abbrev Cart.eramSize (c : Cart) : Nat := if c.controller = .direct then 0x2000 else c.ramSize

/-- The cartridge has a geometry that R85 allows, and its storages are in canonical form and inside it. -/
abbrev Cart.Ok (c : Cart) : Prop :=
  (c.controller = .direct → c.romBanks = 2) ∧
  c.romBanks ∈ [2, 4, 8, 16, 32, 64, 128, 256, 512] ∧
  c.ramSize ∈ [0, 0x800, 0x2000, 0x8000, 0x20000, 0x10000] ∧
  c.ramBanks = ramBanksOf c.ramSize ∧
  (c.rom.Wf ∧ c.rom.Within (c.romBanks * 0x4000)) ∧
  (c.eram.Wf ∧ c.eram.Within c.eramSize)

/-- The timer accumulators are below their periods; TIMA's while the timer is enabled, and below 1024 always (R35). -/
abbrev Timer.Ok (t : Timer) : Prop :=
  t.divAcc < divPeriod ∧ t.timaAcc < 1024 ∧ (t.tac[2] = true → t.timaAcc < timerPeriod t.tac)

/-- The pixel pipeline (R36, R410, R413): the clock is below the mode's budget; vertical blank has lines 144 to 153, every other
mode lines 0 to 143; and a display that is off stands at line 0 of mode 0 with its clock at 0. -/
abbrev Ppu.Ok (p : Ppu) : Prop :=
  p.clock < modeCycles p.mode ∧
  (if p.mode = .vblank then 144 ≤ p.ly.toNat ∧ p.ly.toNat ≤ 153 else p.ly.toNat < 144) ∧
  (p.off = true → p.ly = 0 ∧ p.mode = .hblank ∧ p.clock = 0)

/-- The invariant of the machine: the storages, the cartridge, the timer and the pixel pipeline are as above, the EI countdown is at
most 2 (R29), and SC[7] reads 0 (R45). -/
def State.Inv (s : State) : Prop :=
  s.StorageOk ∧ s.cart.Ok ∧ s.timer.Ok ∧ s.ppu.Ok ∧ s.eiDelay ≤ 2 ∧ s.serial.sc[7] = false

/-! ### Runs -/

/-- The host supplies JOYP_INPUT of the next step (R470). -/
def State.withInput (s : State) (input : Byte) : State := { s with joypQueue := [input] }

/-- A run as the host drives it (R354, R470): one step per byte of input, until a step has no successor. -/
def runWith : List Byte → State → Result
  | [], s => .next s
  | input :: inputs, s =>
    match step (s.withInput input) with
    | .next t => runWith inputs t
    | .fault r => .fault r
    | .refused r => .refused r

/-- A state a successful run may end in: no Fatal condition is recorded (R390: a Fatal state is never the final state of a
successful run). -/
def State.successful (s : State) : Prop := s.fatal = none

/-! ### Codes and operand forms (30_encoding.md R124 to R129, 41_alu8.md R201) -/

end Sys2Proof.Machine

namespace Sys2Proof

/-- The code of an 8-bit register in a selector field (R124). -/
def Reg8.code : Reg8 → Byte
  | .b => 0
  | .c => 1
  | .d => 2
  | .e => 3
  | .h => 4
  | .l => 5
  | .a => 7

/-- The code of an 8-bit operand (R124): 6 is (HL). -/
def Operand8.code : Operand8 → Byte
  | .reg r => r.code
  | .atHl => 6

/-- The code of a 16-bit register (R125). -/
def Reg16.code : Reg16 → Byte
  | .bc => 0
  | .de => 1
  | .hl => 2
  | .sp => 3

/-- The code of a register pair of PUSH and POP (R126). -/
def StackReg.code : StackReg → Byte
  | .bc => 0
  | .de => 1
  | .hl => 2
  | .af => 3

/-- The code of a condition (R127). -/
def Cond.code : Cond → Byte
  | .nz => 0
  | .z => 1
  | .nc => 2
  | .c => 3

/-- The code of a two-operand ALU instruction (R128). -/
def AluOp.code : AluOp → Byte
  | .add => 0
  | .adc => 1
  | .sub => 2
  | .sbc => 3
  | .and => 4
  | .xor => 5
  | .or => 6
  | .cp => 7

/-- The code of a CB rotate or shift (R129). -/
def RotOp.code : RotOp → Byte
  | .rlc => 0
  | .rrc => 1
  | .rl => 2
  | .rr => 3
  | .sla => 4
  | .sra => 5
  | .swap => 6
  | .srl => 7

/-- The three forms of the source operand of a two-operand ALU instruction (R201). -/
inductive AluSource where
  | reg (r : Reg8)
  | atHl
  | imm (n : Byte)
  deriving DecidableEq, Repr

/-- The instruction with this source. -/
def AluSource.instr (op : AluOp) : AluSource → Instr
  | .reg r => .aluReg op r
  | .atHl => .aluAtHl op
  | .imm n => .aluN op n

/-- Its bytes (R201): `10 ooo zzz`, `10 ooo 110`, and `11 ooo 110` with the immediate. -/
def AluSource.bytes (op : AluOp) : AluSource → List Byte
  | .reg r => [0x80 + 8 * op.code + r.code]
  | .atHl => [0x86 + 8 * op.code]
  | .imm n => [0xC6 + 8 * op.code, n]

/-- Its length in bytes (R121, R201). -/
def AluSource.length : AluSource → Word
  | .reg _ => 1
  | .atHl => 1
  | .imm _ => 2

/-- Its cost (R201). -/
def AluSource.cycles : AluSource → Nat
  | .reg _ => 4
  | .atHl => 8
  | .imm _ => 8

end Sys2Proof

namespace Sys2Proof.Machine

/-- The source operand `s` of R201. -/
def State.sourceValue (s : State) : AluSource → Byte
  | .reg r => s.reg8 r
  | .atHl => s.readByte s.hl
  | .imm n => n

/-- The state after the source operand is read. -/
def State.afterSource (s : State) : AluSource → State
  | .reg _ => s
  | .atHl => s.afterRead s.hl
  | .imm _ => s

/-- What R150 adds to an instruction's own effect: PC at its end, and its cost. -/
def State.endAt (s : State) (pc : Word) (cycles : Nat) : State := { s with regs.pc := pc, cycles := cycles }

/-- The results of the CB rotates and shifts (R265 to R272) in another form than the machine's: the result and the new C. -/
def rotated (op : RotOp) (v : Byte) (c : Bool) : Byte × Bool :=
  match op with
  | .rlc => (v.rotateLeft 1, v[7])
  | .rrc => (v.rotateRight 1, v[0])
  | .rl => (v + v + (if c then 1 else 0), v[7])
  | .rr => (BitVec.ofNat 8 (v.toNat / 2 + (if c then 128 else 0)), v[0])
  | .sla => (v + v, v[7])
  | .sra => (v.sshiftRight 1, v[0])
  | .swap => (v.rotateLeft 4, false)
  | .srl => (BitVec.ofNat 8 (v.toNat / 2), v[0])

/-- Two decimal digits as a BCD byte. -/
def bcd (n : Nat) : Byte := BitVec.ofNat 8 (n / 10 % 10 * 16 + n % 10)

/-! ### Terms for frames -/

/-- The addresses an instruction stores to from a state, in the order of its stores, each computed as its meaning computes it; the
second store of a two-byte store is at the next address, or for a push at the one before. -/
def storedAt (i : Instr) (s : State) : List Word :=
  match i with
  | .ldAtHlB | .ldAtHlC | .ldAtHlD | .ldAtHlE | .ldAtHlH | .ldAtHlL | .ldAtHlA | .ldAtHlIncA | .ldAtHlDecA | .incAtHl
  | .decAtHl | .rlcAtHl | .rrcAtHl | .rlAtHl | .rrAtHl | .slaAtHl | .sraAtHl | .swapAtHl | .srlAtHl | .res0AtHl
  | .res1AtHl | .res2AtHl | .res3AtHl | .res4AtHl | .res5AtHl | .res6AtHl | .res7AtHl | .set0AtHl | .set1AtHl
  | .set2AtHl | .set3AtHl | .set4AtHl | .set5AtHl | .set6AtHl | .set7AtHl => [s.hl]
  | .ldAtHlN _ => [s.hl]
  | .ldAtBcA => [s.bc]
  | .ldAtDeA => [s.de]
  | .ldAtNnA nn => [nn]
  | .ldhAtNA n => [highPage n]
  | .ldhAtCA => [highPage s.regs.c]
  | .ldAtNnSp nn => [nn, nn + 1]
  | .pushBc | .pushDe | .pushHl | .pushAf => [s.regs.sp - 1, s.regs.sp - 2]
  | .callNn _ => [s.regs.sp - 1, s.regs.sp - 2]
  | .callNzNn _ => if condHolds s.regs.f .nz then [s.regs.sp - 1, s.regs.sp - 2] else []
  | .callZNn _ => if condHolds s.regs.f .z then [s.regs.sp - 1, s.regs.sp - 2] else []
  | .callNcNn _ => if condHolds s.regs.f .nc then [s.regs.sp - 1, s.regs.sp - 2] else []
  | .callCNn _ => if condHolds s.regs.f .c then [s.regs.sp - 1, s.regs.sp - 2] else []
  | .rst00 | .rst08 | .rst10 | .rst18 | .rst20 | .rst28 | .rst30 | .rst38 => [s.regs.sp - 1, s.regs.sp - 2]
  | .prefixCb op2 => if fieldZ op2 = 6 ∧ fieldX op2 ≠ 1 then [s.hl] else []
  | _ => []

/-- The instructions whose rules list a flag (R27): the 8-bit arithmetic and logic, ADD HL,rr, ADD SP,e, LD HL,SP+e, the rotates
and shifts, BIT, POP AF, and the bare CB prefix, whose instruction may be one of these. -/
def writesFlags (i : Instr) : Bool :=
  match i with
  | .incB | .decB | .rlcAcc | .addHlBc | .incC | .decC | .rrcAcc | .incD | .decD | .rlAcc | .addHlDe | .incE | .decE
  | .rrAcc | .incH | .decH | .daa | .addHlHl | .incL | .decL | .cplAcc | .incAtHl | .decAtHl | .scf | .addHlSp
  | .incA | .decA | .ccf | .addAB | .addAC | .addAD | .addAE | .addAH | .addAL | .addAAtHl | .addAA | .adcAB | .adcAC
  | .adcAD | .adcAE | .adcAH | .adcAL | .adcAAtHl | .adcAA | .subB | .subC | .subD | .subE | .subH | .subL | .subAtHl
  | .subA | .sbcAB | .sbcAC | .sbcAD | .sbcAE | .sbcAH | .sbcAL | .sbcAAtHl | .sbcAA | .andB | .andC | .andD | .andE
  | .andH | .andL | .andAtHl | .andA | .xorB | .xorC | .xorD | .xorE | .xorH | .xorL | .xorAtHl | .xorA | .orB | .orC
  | .orD | .orE | .orH | .orL | .orAtHl | .orA | .cpB | .cpC | .cpD | .cpE | .cpH | .cpL | .cpAtHl | .cpA | .addAN _
  | .adcAN _ | .subN _ | .sbcAN _ | .andN _ | .addSpE _ | .xorN _ | .popAf | .orN _ | .ldHlSpE _ | .cpN _ | .rlcB
  | .rlcC | .rlcD | .rlcE | .rlcH | .rlcL | .rlcAtHl | .rlcA | .rrcB | .rrcC | .rrcD | .rrcE | .rrcH | .rrcL
  | .rrcAtHl | .rrcA | .rlB | .rlC | .rlD | .rlE | .rlH | .rlL | .rlAtHl | .rlA | .rrB | .rrC | .rrD | .rrE | .rrH
  | .rrL | .rrAtHl | .rrA | .slaB | .slaC | .slaD | .slaE | .slaH | .slaL | .slaAtHl | .slaA | .sraB | .sraC | .sraD
  | .sraE | .sraH | .sraL | .sraAtHl | .sraA | .swapB | .swapC | .swapD | .swapE | .swapH | .swapL | .swapAtHl
  | .swapA | .srlB | .srlC | .srlD | .srlE | .srlH | .srlL | .srlAtHl | .srlA | .bit0B | .bit0C | .bit0D | .bit0E
  | .bit0H | .bit0L | .bit0AtHl | .bit0A | .bit1B | .bit1C | .bit1D | .bit1E | .bit1H | .bit1L | .bit1AtHl | .bit1A
  | .bit2B | .bit2C | .bit2D | .bit2E | .bit2H | .bit2L | .bit2AtHl | .bit2A | .bit3B | .bit3C | .bit3D | .bit3E
  | .bit3H | .bit3L | .bit3AtHl | .bit3A | .bit4B | .bit4C | .bit4D | .bit4E | .bit4H | .bit4L | .bit4AtHl | .bit4A
  | .bit5B | .bit5C | .bit5D | .bit5E | .bit5H | .bit5L | .bit5AtHl | .bit5A | .bit6B | .bit6C | .bit6D | .bit6E
  | .bit6H | .bit6L | .bit6AtHl | .bit6A | .bit7B | .bit7C | .bit7D | .bit7E | .bit7H | .bit7L | .bit7AtHl | .bit7A => true
  | .prefixCb _ => true
  | _ => false

/-- Plain RAM (R76, R78, R79, R81, R83): a write changes that cell and nothing else. -/
def Region.isRam : Region → Bool
  | .vram _ => true
  | .wram _ => true
  | .oam _ => true
  | .hram _ => true
  | _ => false

/-- An address reads as before, or its read is a draw before and after. -/
def ReadsAsBefore (s t : State) (a : Word) : Prop :=
  t.drawsAt (regionOf a) = s.drawsAt (regionOf a) ∧ (s.drawsAt (regionOf a) = false → t.readByte a = s.readByte a)

/-- The position of the pixel pipeline in its frame of 154 lines of 456 cycles (R414), from vertical-blank exit on. -/
def Ppu.position (p : Ppu) : Nat :=
  456 * p.ly.toNat +
    (match p.mode with
     | .oamScan => 0
     | .drawing => 80
     | .hblank => 252
     | .vblank => 0) + p.clock

/-- The bank geometry, the kind of the controller, the ROM image and the boot program: fixed at load. -/
def SameCartridge (s t : State) : Prop :=
  t.boot = s.boot ∧ t.cart.rom = s.cart.rom ∧ t.cart.romBanks = s.cart.romBanks ∧ t.cart.ramSize = s.cart.ramSize ∧
  t.cart.ramBanks = s.cart.ramBanks ∧
  (match s.cart.controller, t.cart.controller with
   | .direct, .direct => True
   | .mbc1 _, .mbc1 _ => True
   | .mbc3 _, .mbc3 _ => True
   | _, _ => False)

end Sys2Proof.Machine
end

