-- ==== Sys2Proof/Certificates/Slice0/Obligations.lean ====
section
/-! DEFINITION. The statements about the model, each from the numbered rules of spec/ that its docstring names. In a statement about an
instruction, `s` is the state `exec` is given: PC is the address of the opcode (R150, notes/assumptions/7.md). -/

open Sys2Proof Sys2Proof.Machine

/-! ### Encoding -/

/-- R120 to R131: decoding the bytes of a well-formed instruction gives that instruction and leaves the bytes after it. -/
def Obligations.DecodeEncode : Prop :=
  ∀ (i : Instr) (rest : List Byte), i.wellFormed = true → decode (encode i ++ rest) = .ok (i, rest)

/-- R134: what is decoded is well-formed and encodes to the bytes it was read from, and any three bytes hold an instruction, whose
length the first byte gives. -/
def Obligations.EncodeDecode : Prop :=
  (∀ (bytes : List Byte) (i : Instr) (rest : List Byte),
    decode bytes = .ok (i, rest) → i.wellFormed = true ∧ encode i ++ rest = bytes) ∧
  (∀ (op b1 b2 : Byte) (rest : List Byte),
    ∃ i, decode (op :: b1 :: b2 :: rest) = .ok (i, (b1 :: b2 :: rest).drop (instrLength op - 1)))

/-- R130, R131: some words written out from the maps, one of each family. -/
def Obligations.SpecWords : Prop :=
  decode [0x48] = .ok (.ldCB, []) ∧ decode [0x31, 0xFE, 0xFF] = .ok (.ldSpNn 0xFFFE, []) ∧
  decode [0x82] = .ok (.addAD, []) ∧ decode [0xDE, 0x3A] = .ok (.sbcAN 0x3A, []) ∧
  decode [0x39] = .ok (.addHlSp, []) ∧ decode [0xCB, 0x37] = .ok (.swapA, []) ∧
  decode [0xCB, 0x7E] = .ok (.bit7AtHl, []) ∧ decode [0xDC, 0x00, 0x40] = .ok (.callCNn 0x4000, []) ∧
  decode [0xFB] = .ok (.ei, []) ∧ decode [0xDD] = .ok (.illegalDD, [])

/-! ### Registers -/

/-- R20, R21, R22, R124: a register reads what was last written to it and no write changes another; the pairs are views of their
halves, the first named one high; F reads its four flags in bits 7..4 and 0 below, and a write to AF drops the low nibble. -/
def Obligations.RegisterViews : Prop :=
  (∀ (s : State) (r r' : Reg8) (v : Byte),
    (s.setReg8 r v).reg8 r' = (if r' = r then v else s.reg8 r') ∧
    (s.setReg8 r v).regs.f = s.regs.f ∧ (s.setReg8 r v).regs.sp = s.regs.sp ∧ (s.setReg8 r v).regs.pc = s.regs.pc ∧
    s.setReg8 r v = { s with regs := (s.setReg8 r v).regs }) ∧
  (∀ (s : State) (v : Word),
    s.bc.toNat = s.regs.b.toNat * 256 + s.regs.c.toNat ∧ s.de.toNat = s.regs.d.toNat * 256 + s.regs.e.toNat ∧
    s.hl.toNat = s.regs.h.toNat * 256 + s.regs.l.toNat ∧ s.af.toNat = s.regs.a.toNat * 256 + s.regs.f.toByte.toNat ∧
    (s.setBc v).bc = v ∧ (s.setDe v).de = v ∧ (s.setHl v).hl = v ∧ (s.setAf v).af = v &&& 0xFFF0 ∧
    s.setBc v = (s.setReg8 .b (hiByte v)).setReg8 .c (loByte v) ∧
    s.setDe v = (s.setReg8 .d (hiByte v)).setReg8 .e (loByte v) ∧
    s.setHl v = (s.setReg8 .h (hiByte v)).setReg8 .l (loByte v) ∧
    (s.setAf v).setF s.regs.f = s.setReg8 .a (hiByte v)) ∧
  (∀ f : Flags,
    f.toByte[7] = f.z ∧ f.toByte[6] = f.n ∧ f.toByte[5] = f.h ∧ f.toByte[4] = f.c ∧ f.toByte &&& 0x0F = 0)

/-! ### Loads, stores and the stack -/

/-- R151 (LD r,r'), R154 (LD r,n). -/
def Obligations.LoadRegister : Prop :=
  (∀ (s : State) (dst r : Reg8),
    encode (Instr.ldRegReg dst r) = [0x40 + 8 * dst.code + r.code] ∧
    exec (Instr.ldRegReg dst r) s = .next ((s.setReg8 dst (s.reg8 r)).endAt (s.regs.pc + 1) 4)) ∧
  (∀ (s : State) (dst : Reg8) (n : Byte),
    encode (Instr.ldRegN dst n) = [0x06 + 8 * dst.code, n] ∧
    exec (Instr.ldRegN dst n) s = .next ((s.setReg8 dst n).endAt (s.regs.pc + 2) 8))

/-- R170 (LD rr,nn), R172 (LD SP,HL). -/
def Obligations.LoadPair : Prop :=
  (∀ (s : State) (r : Reg16) (nn : Word),
    encode (Instr.ldReg16Nn r nn) = [0x01 + 16 * r.code, loByte nn, hiByte nn] ∧
    exec (Instr.ldReg16Nn r nn) s = .next ((s.setReg16 r nn).endAt (s.regs.pc + 3) 12)) ∧
  (∀ s : State,
    encode .ldSpHl = [0xF9] ∧ exec .ldSpHl s = .next ((s.setSp s.hl).endAt (s.regs.pc + 1) 8))

/-- R152, R156, R157, R160, R162, R163, R166, R168: the loads of one byte from memory. -/
def Obligations.LoadMemory : Prop :=
  ∀ (s : State),
  (∀ dst : Reg8,
    encode (Instr.ldRegAtHl dst) = [0x46 + 8 * dst.code] ∧
    exec (Instr.ldRegAtHl dst) s =
      .next (((s.afterRead s.hl).setReg8 dst (s.readByte s.hl)).endAt (s.regs.pc + 1) 8)) ∧
  (encode .ldAAtBc = [0x0A] ∧
    exec .ldAAtBc s = .next (((s.afterRead s.bc).setA (s.readByte s.bc)).endAt (s.regs.pc + 1) 8)) ∧
  (encode .ldAAtDe = [0x1A] ∧
    exec .ldAAtDe s = .next (((s.afterRead s.de).setA (s.readByte s.de)).endAt (s.regs.pc + 1) 8)) ∧
  (∀ nn : Word,
    encode (.ldAAtNn nn) = [0xFA, loByte nn, hiByte nn] ∧
    exec (.ldAAtNn nn) s = .next (((s.afterRead nn).setA (s.readByte nn)).endAt (s.regs.pc + 3) 16)) ∧
  (encode .ldAAtHlInc = [0x2A] ∧
    exec .ldAAtHlInc s =
      .next ((((s.afterRead s.hl).setA (s.readByte s.hl)).setHl (s.hl + 1)).endAt (s.regs.pc + 1) 8)) ∧
  (encode .ldAAtHlDec = [0x3A] ∧
    exec .ldAAtHlDec s =
      .next ((((s.afterRead s.hl).setA (s.readByte s.hl)).setHl (s.hl - 1)).endAt (s.regs.pc + 1) 8)) ∧
  (∀ n : Byte,
    encode (.ldhAAtN n) = [0xF0, n] ∧
    exec (.ldhAAtN n) s =
      .next (((s.afterRead (0xFF00 + n.setWidth 16)).setA (s.readByte (0xFF00 + n.setWidth 16))).endAt
        (s.regs.pc + 2) 12)) ∧
  (encode .ldhAAtC = [0xF2] ∧
    exec .ldhAAtC s =
      .next (((s.afterRead (0xFF00 + s.regs.c.setWidth 16)).setA (s.readByte (0xFF00 + s.regs.c.setWidth 16))).endAt
        (s.regs.pc + 1) 8))

/-- R153, R155, R158, R159, R161, R164, R165, R167, R169: the stores of one byte to memory. -/
def Obligations.StoreMemory : Prop :=
  ∀ (s : State),
  (∀ r : Reg8,
    encode (Instr.ldAtHlReg r) = [0x70 + r.code] ∧
    exec (Instr.ldAtHlReg r) s = .next ((s.writeByte s.hl (s.reg8 r)).endAt (s.regs.pc + 1) 8)) ∧
  (∀ n : Byte,
    encode (.ldAtHlN n) = [0x36, n] ∧
    exec (.ldAtHlN n) s = .next ((s.writeByte s.hl n).endAt (s.regs.pc + 2) 12)) ∧
  (encode .ldAtBcA = [0x02] ∧
    exec .ldAtBcA s = .next ((s.writeByte s.bc s.regs.a).endAt (s.regs.pc + 1) 8)) ∧
  (encode .ldAtDeA = [0x12] ∧
    exec .ldAtDeA s = .next ((s.writeByte s.de s.regs.a).endAt (s.regs.pc + 1) 8)) ∧
  (∀ nn : Word,
    encode (.ldAtNnA nn) = [0xEA, loByte nn, hiByte nn] ∧
    exec (.ldAtNnA nn) s = .next ((s.writeByte nn s.regs.a).endAt (s.regs.pc + 3) 16)) ∧
  (encode .ldAtHlIncA = [0x22] ∧
    exec .ldAtHlIncA s = .next (((s.writeByte s.hl s.regs.a).setHl (s.hl + 1)).endAt (s.regs.pc + 1) 8)) ∧
  (encode .ldAtHlDecA = [0x32] ∧
    exec .ldAtHlDecA s = .next (((s.writeByte s.hl s.regs.a).setHl (s.hl - 1)).endAt (s.regs.pc + 1) 8)) ∧
  (∀ n : Byte,
    encode (.ldhAtNA n) = [0xE0, n] ∧
    exec (.ldhAtNA n) s = .next ((s.writeByte (0xFF00 + n.setWidth 16) s.regs.a).endAt (s.regs.pc + 2) 12)) ∧
  (encode .ldhAtCA = [0xE2] ∧
    exec .ldhAtCA s = .next ((s.writeByte (0xFF00 + s.regs.c.setWidth 16) s.regs.a).endAt (s.regs.pc + 1) 8))

/-- R63, R171 (LD (nn),SP): the low byte first, at the lower address. -/
def Obligations.StoreSp : Prop :=
  ∀ (s : State) (nn : Word),
    encode (.ldAtNnSp nn) = [0x08, loByte nn, hiByte nn] ∧
    exec (.ldAtNnSp nn) s =
      .next (((s.writeByte nn (s.regs.sp.setWidth 8)).writeByte (nn + 1) ((s.regs.sp >>> 8).setWidth 8)).endAt
        (s.regs.pc + 3) 20)

/-- R173 (PUSH), R174 (POP). -/
def Obligations.PushPop : Prop :=
  (∀ (s : State) (r : StackReg),
    encode (Instr.push r) = [0xC5 + 16 * r.code] ∧
    exec (Instr.push r) s =
      .next ((((s.writeByte (s.regs.sp - 1) (hiByte (s.stackReg r))).writeByte (s.regs.sp - 2)
        (loByte (s.stackReg r))).setSp (s.regs.sp - 2)).endAt (s.regs.pc + 1) 16)) ∧
  (∀ (s : State) (r : StackReg),
    encode (Instr.pop r) = [0xC1 + 16 * r.code] ∧
    exec (Instr.pop r) s =
      .next (((((s.afterRead s.regs.sp).afterRead (s.regs.sp + 1)).setStackReg r
        (mkWord ((s.afterRead s.regs.sp).readByte (s.regs.sp + 1)) (s.readByte s.regs.sp))).setSp
        (s.regs.sp + 2)).endAt (s.regs.pc + 1) 12)) ∧
  (∀ (s : State) (v : Word),
    s.stackReg .bc = s.bc ∧ s.stackReg .de = s.de ∧ s.stackReg .hl = s.hl ∧ s.stackReg .af = s.af ∧
    s.setStackReg .bc v = s.setBc v ∧ s.setStackReg .de v = s.setDe v ∧ s.setStackReg .hl v = s.setHl v ∧
    s.setStackReg .af v = s.setAf v ∧
    (s.setAf v).regs.f = { z := v[7], n := v[6], h := v[5], c := v[4] })

/-- R175 (LD HL,SP+e), R243 (ADD SP,e): a signed offset, and the flags of an unsigned addition of the low bytes. -/
def Obligations.SpOffset : Prop :=
  ∀ (s : State) (e : Byte),
  let f : Flags :=
    { z := false, n := false
      h := decide ((s.regs.sp &&& 0x000F).toNat + (e &&& 0x0F).toNat > 0x0F)
      c := decide ((s.regs.sp &&& 0x00FF).toNat + e.toNat > 0xFF) }
  let sum : Word := BitVec.ofInt 16 (s.regs.sp.toNat + e.toInt)
  (encode (.ldHlSpE e) = [0xF8, e] ∧ exec (.ldHlSpE e) s = .next (((s.setHl sum).setF f).endAt (s.regs.pc + 2) 12)) ∧
  (encode (.addSpE e) = [0xE8, e] ∧ exec (.addSpE e) s = .next (((s.setSp sum).setF f).endAt (s.regs.pc + 2) 16))

/-! ### 8-bit arithmetic and logic -/

/-- R202 (ADD), R203 (ADC), on the three operand forms of R201. -/
def Obligations.AddAdc : Prop :=
  (∀ (s : State) (src : AluSource),
    let a := s.regs.a
    let b := s.sourceValue src
    encode (src.instr .add) = src.bytes .add ∧
    exec (src.instr .add) s =
      .next ((((s.afterSource src).setA (a + b)).setF
        { z := decide (a + b = 0), n := false
          h := decide ((a &&& 0x0F).toNat + (b &&& 0x0F).toNat > 0x0F)
          c := decide (a.toNat + b.toNat > 0xFF) }).endAt (s.regs.pc + src.length) src.cycles)) ∧
  (∀ (s : State) (src : AluSource),
    let a := s.regs.a
    let b := s.sourceValue src
    let cin := s.regs.f.c.toNat
    let r : Byte := a + b + (if s.regs.f.c then 1 else 0)
    encode (src.instr .adc) = src.bytes .adc ∧
    exec (src.instr .adc) s =
      .next ((((s.afterSource src).setA r).setF
        { z := decide (r = 0), n := false
          h := decide ((a &&& 0x0F).toNat + (b &&& 0x0F).toNat + cin > 0x0F)
          c := decide (a.toNat + b.toNat + cin > 0xFF) }).endAt (s.regs.pc + src.length) src.cycles))

/-- R204 (SUB), R205 (SBC), R209 (CP), on the three operand forms of R201. -/
def Obligations.SubSbcCp : Prop :=
  ∀ (s : State) (src : AluSource),
  let a := s.regs.a
  let b := s.sourceValue src
  let f : Flags :=
    { z := decide (a - b = 0), n := true
      h := decide ((a &&& 0x0F).toNat < (b &&& 0x0F).toNat), c := decide (a.toNat < b.toNat) }
  let cin := s.regs.f.c.toNat
  let r : Byte := a - b - (if s.regs.f.c then 1 else 0)
  (encode (src.instr .sub) = src.bytes .sub ∧
    exec (src.instr .sub) s =
      .next ((((s.afterSource src).setA (a - b)).setF f).endAt (s.regs.pc + src.length) src.cycles)) ∧
  (encode (src.instr .cp) = src.bytes .cp ∧
    exec (src.instr .cp) s = .next (((s.afterSource src).setF f).endAt (s.regs.pc + src.length) src.cycles)) ∧
  (encode (src.instr .sbc) = src.bytes .sbc ∧
    exec (src.instr .sbc) s =
      .next ((((s.afterSource src).setA r).setF
        { z := decide (r = 0), n := true
          h := decide ((a &&& 0x0F).toNat < (b &&& 0x0F).toNat + cin)
          c := decide (a.toNat < b.toNat + cin) }).endAt (s.regs.pc + src.length) src.cycles))

/-- R206 (AND), R207 (XOR), R208 (OR), on the three operand forms of R201. -/
def Obligations.Logic : Prop :=
  ∀ (s : State) (src : AluSource),
  let a := s.regs.a
  let b := s.sourceValue src
  let result (r : Byte) (h : Bool) : State :=
    (((s.afterSource src).setA r).setF { z := decide (r = 0), n := false, h := h, c := false }).endAt
      (s.regs.pc + src.length) src.cycles
  (encode (src.instr .and) = src.bytes .and ∧ exec (src.instr .and) s = .next (result (a &&& b) true)) ∧
  (encode (src.instr .xor) = src.bytes .xor ∧ exec (src.instr .xor) s = .next (result (a ^^^ b) false)) ∧
  (encode (src.instr .or) = src.bytes .or ∧ exec (src.instr .or) s = .next (result (a ||| b) false))

/-- R210 (INC r), R211 (INC (HL)), R212 (DEC r), R213 (DEC (HL)): C is kept. -/
def Obligations.IncDec8 : Prop :=
  let incF (s : State) (v : Byte) : Flags :=
    { z := decide (v + 1 = 0), n := false, h := decide (v &&& 0x0F = 0x0F), c := s.regs.f.c }
  let decF (s : State) (v : Byte) : Flags :=
    { z := decide (v - 1 = 0), n := true, h := decide (v &&& 0x0F = 0x00), c := s.regs.f.c }
  ∀ (s : State),
  (∀ r : Reg8,
    encode (Instr.incReg r) = [0x04 + 8 * r.code] ∧
    exec (Instr.incReg r) s =
      .next (((s.setReg8 r (s.reg8 r + 1)).setF (incF s (s.reg8 r))).endAt (s.regs.pc + 1) 4)) ∧
  (encode .incAtHl = [0x34] ∧
    exec .incAtHl s =
      .next ((((s.afterRead s.hl).writeByte s.hl (s.readByte s.hl + 1)).setF (incF s (s.readByte s.hl))).endAt
        (s.regs.pc + 1) 12)) ∧
  (∀ r : Reg8,
    encode (Instr.decReg r) = [0x05 + 8 * r.code] ∧
    exec (Instr.decReg r) s =
      .next (((s.setReg8 r (s.reg8 r - 1)).setF (decF s (s.reg8 r))).endAt (s.regs.pc + 1) 4)) ∧
  (encode .decAtHl = [0x35] ∧
    exec .decAtHl s =
      .next ((((s.afterRead s.hl).writeByte s.hl (s.readByte s.hl - 1)).setF (decF s (s.readByte s.hl))).endAt
        (s.regs.pc + 1) 12))

/-- R214 (DAA). -/
def Obligations.DaaCorrection : Prop :=
  ∀ s : State,
  let a := s.regs.a
  let f := s.regs.f
  let high : Byte :=
    if f.n = false then (if f.c = true ∨ a.toNat > 0x99 then a + 0x60 else a) else (if f.c = true then a - 0x60 else a)
  let r : Byte :=
    if f.n = false then (if f.h = true ∨ (high &&& 0x0F).toNat > 0x09 then high + 0x06 else high)
    else (if f.h = true then high - 0x06 else high)
  encode .daa = [0x27] ∧
  exec .daa s =
    .next (((s.setA r).setF
      { z := decide (r = 0), n := f.n, h := false, c := f.c || (!f.n && decide (a.toNat > 0x99)) }).endAt
      (s.regs.pc + 1) 4)

/-- R202 to R205 with R214: an addition or subtraction of two-digit decimal numbers followed by DAA leaves the two low digits of the
decimal sum or difference in A, and the decimal carry or borrow in C. -/
def Obligations.DaaDecimal : Prop :=
  ∀ (s : State) (x y : Nat), x < 100 → y < 100 → s.regs.a = bcd x →
  (∃ t u, exec (.adcAN (bcd y)) s = .next t ∧ exec .daa t = .next u ∧
    u.regs.a = bcd ((x + y + s.regs.f.c.toNat) % 100) ∧ u.regs.f.c = decide (x + y + s.regs.f.c.toNat ≥ 100)) ∧
  (∃ t u, exec (.sbcAN (bcd y)) s = .next t ∧ exec .daa t = .next u ∧
    u.regs.a = bcd ((x + 200 - y - s.regs.f.c.toNat) % 100) ∧ u.regs.f.c = decide (x < y + s.regs.f.c.toNat))

/-- R215 (CPL), R216 (SCF), R217 (CCF). -/
def Obligations.CplScfCcf : Prop :=
  ∀ s : State,
  (encode .cplAcc = [0x2F] ∧
    exec .cplAcc s =
      .next (((s.setA (s.regs.a ^^^ 0xFF)).setF { z := s.regs.f.z, n := true, h := true, c := s.regs.f.c }).endAt
        (s.regs.pc + 1) 4)) ∧
  (encode .scf = [0x37] ∧
    exec .scf s =
      .next ((s.setF { z := s.regs.f.z, n := false, h := false, c := true }).endAt (s.regs.pc + 1) 4)) ∧
  (encode .ccf = [0x3F] ∧
    exec .ccf s =
      .next ((s.setF { z := s.regs.f.z, n := false, h := false, c := !s.regs.f.c }).endAt (s.regs.pc + 1) 4))

/-! ### 16-bit arithmetic -/

/-- R240 (ADD HL,rr), R241 (INC rr), R242 (DEC rr). -/
def Obligations.Arith16 : Prop :=
  ∀ (s : State) (r : Reg16),
  let a := s.hl
  let b := s.reg16 r
  (encode (Instr.addHlReg16 r) = [0x09 + 16 * r.code] ∧
    exec (Instr.addHlReg16 r) s =
      .next (((s.setHl (a + b)).setF
        { z := s.regs.f.z, n := false
          h := decide ((a &&& 0x0FFF).toNat + (b &&& 0x0FFF).toNat > 0x0FFF)
          c := decide (a.toNat + b.toNat > 0xFFFF) }).endAt (s.regs.pc + 1) 8)) ∧
  (encode (Instr.incReg16 r) = [0x03 + 16 * r.code] ∧
    exec (Instr.incReg16 r) s = .next ((s.setReg16 r (b + 1)).endAt (s.regs.pc + 1) 8)) ∧
  (encode (Instr.decReg16 r) = [0x0B + 16 * r.code] ∧
    exec (Instr.decReg16 r) s = .next ((s.setReg16 r (b - 1)).endAt (s.regs.pc + 1) 8)) ∧
  (s.reg16 .bc = s.bc ∧ s.reg16 .de = s.de ∧ s.reg16 .hl = s.hl ∧ s.reg16 .sp = s.regs.sp) ∧
  (∀ v : Word, s.setReg16 .bc v = s.setBc v ∧ s.setReg16 .de v = s.setDe v ∧ s.setReg16 .hl v = s.setHl v ∧
    s.setReg16 .sp v = s.setSp v)

/-! ### Rotates, shifts and bits -/

/-- R260 (RLCA), R261 (RRCA), R262 (RLA), R263 (RRA): Z is 0 whatever the result is. -/
def Obligations.AccRotates : Prop :=
  ∀ s : State,
  let a := s.regs.a
  let result (r : Byte) (c : Bool) : State :=
    ((s.setA r).setF { z := false, n := false, h := false, c := c }).endAt (s.regs.pc + 1) 4
  (encode .rlcAcc = [0x07] ∧ exec .rlcAcc s = .next (result (a.rotateLeft 1) a[7])) ∧
  (encode .rrcAcc = [0x0F] ∧ exec .rrcAcc s = .next (result (a.rotateRight 1) a[0])) ∧
  (encode .rlAcc = [0x17] ∧ exec .rlAcc s = .next (result (a + a + (if s.regs.f.c then 1 else 0)) a[7])) ∧
  (encode .rrAcc = [0x1F] ∧
    exec .rrAcc s = .next (result (BitVec.ofNat 8 (a.toNat / 2 + (if s.regs.f.c then 128 else 0))) a[0]))

/-- R264 to R272: the CB rotates and shifts, on a register and on (HL). -/
def Obligations.CbRotates : Prop :=
  ∀ (s : State) (op : RotOp),
  let flags (v : Byte) : Flags :=
    { z := decide ((rotated op v s.regs.f.c).1 = 0), n := false, h := false, c := (rotated op v s.regs.f.c).2 }
  (∀ o : Operand8, encode (Instr.rot op o) = [0xCB, 8 * op.code + o.code]) ∧
  (∀ r : Reg8,
    exec (Instr.rot op (.reg r)) s =
      .next (((s.setReg8 r (rotated op (s.reg8 r) s.regs.f.c).1).setF (flags (s.reg8 r))).endAt (s.regs.pc + 2) 8)) ∧
  exec (Instr.rot op .atHl) s =
    .next ((((s.afterRead s.hl).writeByte s.hl (rotated op (s.readByte s.hl) s.regs.f.c).1).setF
      (flags (s.readByte s.hl))).endAt (s.regs.pc + 2) 16)

/-- R264, R273 (BIT b,o). -/
def Obligations.BitTest : Prop :=
  ∀ (s : State) (b : Fin 8),
  let flags (v : Byte) : Flags :=
    { z := decide (v.toNat / 2 ^ b.val % 2 = 0), n := false, h := true, c := s.regs.f.c }
  (∀ o : Operand8, encode (Instr.bit b o) = [0xCB, 0x40 + 8 * BitVec.ofNat 8 b.val + o.code]) ∧
  (∀ r : Reg8, exec (Instr.bit b (.reg r)) s = .next ((s.setF (flags (s.reg8 r))).endAt (s.regs.pc + 2) 8)) ∧
  exec (Instr.bit b .atHl) s =
    .next (((s.afterRead s.hl).setF (flags (s.readByte s.hl))).endAt (s.regs.pc + 2) 12)

/-- R264, R274 (RES b,o), R275 (SET b,o): the operand is written with that one bit as said and every other bit as it was. -/
def Obligations.ResSet : Prop :=
  ∀ (s : State) (b : Fin 8),
  let withBit (v : Byte) (bit : Bool) (w : Byte) : Prop :=
    ∀ k < 8, w.getLsbD k = (if k = b.val then bit else v.getLsbD k)
  (∀ o : Operand8,
    encode (Instr.res b o) = [0xCB, 0x80 + 8 * BitVec.ofNat 8 b.val + o.code] ∧
    encode (Instr.set b o) = [0xCB, 0xC0 + 8 * BitVec.ofNat 8 b.val + o.code]) ∧
  (∀ r : Reg8,
    (∃ w, withBit (s.reg8 r) false w ∧ exec (Instr.res b (.reg r)) s = .next ((s.setReg8 r w).endAt (s.regs.pc + 2) 8)) ∧
    (∃ w, withBit (s.reg8 r) true w ∧ exec (Instr.set b (.reg r)) s = .next ((s.setReg8 r w).endAt (s.regs.pc + 2) 8))) ∧
  (∃ w, withBit (s.readByte s.hl) false w ∧
    exec (Instr.res b .atHl) s = .next (((s.afterRead s.hl).writeByte s.hl w).endAt (s.regs.pc + 2) 16)) ∧
  (∃ w, withBit (s.readByte s.hl) true w ∧
    exec (Instr.set b .atHl) s = .next (((s.afterRead s.hl).writeByte s.hl w).endAt (s.regs.pc + 2) 16))

/-! ### Control transfer -/

/-- R300, R301 (JP nn), R302 (JP cc,nn), R303 (JP HL), R304 (JR e), R305 (JR cc,e). -/
def Obligations.Jumps : Prop :=
  (∀ f : Flags, condHolds f .nz = !f.z ∧ condHolds f .z = f.z ∧ condHolds f .nc = !f.c ∧ condHolds f .c = f.c) ∧
  ∀ s : State,
  let relative (e : Byte) : Word := BitVec.ofInt 16 (s.regs.pc.toNat + 2 + e.toInt)
  (∀ nn, encode (.jpNn nn) = [0xC3, loByte nn, hiByte nn] ∧ exec (.jpNn nn) s = .next (s.endAt nn 16)) ∧
  (encode .jpHl = [0xE9] ∧ exec .jpHl s = .next (s.endAt s.hl 4)) ∧
  (∀ e, encode (.jrE e) = [0x18, e] ∧ exec (.jrE e) s = .next (s.endAt (relative e) 12)) ∧
  (∀ cc nn,
    encode (Instr.jpCond cc nn) = [0xC2 + 8 * cc.code, loByte nn, hiByte nn] ∧
    exec (Instr.jpCond cc nn) s =
      .next (if condHolds s.regs.f cc = true then s.endAt nn 16 else s.endAt (s.regs.pc + 3) 12)) ∧
  (∀ cc e,
    encode (Instr.jrCond cc e) = [0x20 + 8 * cc.code, e] ∧
    exec (Instr.jrCond cc e) s =
      .next (if condHolds s.regs.f cc = true then s.endAt (relative e) 12 else s.endAt (s.regs.pc + 2) 8))

/-- R306 (CALL nn), R307 (CALL cc,nn), R311 (RST t): the return address is pushed high byte first. -/
def Obligations.Calls : Prop :=
  ∀ s : State,
  let called (length : Word) (target : Word) (cycles : Nat) : State :=
    (((s.writeByte (s.regs.sp - 1) (hiByte (s.regs.pc + length))).writeByte (s.regs.sp - 2)
      (loByte (s.regs.pc + length))).setSp (s.regs.sp - 2)).endAt target cycles
  (∀ nn, encode (.callNn nn) = [0xCD, loByte nn, hiByte nn] ∧ exec (.callNn nn) s = .next (called 3 nn 24)) ∧
  (∀ cc nn,
    encode (Instr.callCond cc nn) = [0xC4 + 8 * cc.code, loByte nn, hiByte nn] ∧
    exec (Instr.callCond cc nn) s =
      .next (if condHolds s.regs.f cc = true then called 3 nn 24 else s.endAt (s.regs.pc + 3) 12)) ∧
  (∀ y : Fin 8,
    encode (Instr.rst y) = [0xC7 + 8 * BitVec.ofNat 8 y.val] ∧
    exec (Instr.rst y) s = .next (called 1 (BitVec.ofNat 16 (y.val * 8)) 16))

/-- R308 (RET), R309 (RET cc), R310 (RETI): the low byte is popped first. -/
def Obligations.Returns : Prop :=
  ∀ s : State,
  let returned (cycles : Nat) : State :=
    (((s.afterRead s.regs.sp).afterRead (s.regs.sp + 1)).setSp (s.regs.sp + 2)).endAt
      (mkWord ((s.afterRead s.regs.sp).readByte (s.regs.sp + 1)) (s.readByte s.regs.sp)) cycles
  (encode .ret = [0xC9] ∧ exec .ret s = .next (returned 16)) ∧
  (∀ cc,
    encode (Instr.retCond cc) = [0xC0 + 8 * cc.code] ∧
    exec (Instr.retCond cc) s =
      .next (if condHolds s.regs.f cc = true then returned 20 else s.endAt (s.regs.pc + 1) 8)) ∧
  (encode .reti = [0xD9] ∧ exec .reti s = .next { returned 16 with ime := true })

/-- R306, R308, R362, R310: with the stack in work RAM, RET undoes CALL and RETI undoes a dispatch. -/
def Obligations.CallReturns : Prop :=
  ∀ (s : State), s.wram.Wf → 0xC002 ≤ s.regs.sp.toNat → s.regs.sp.toNat ≤ 0xE000 →
  (∀ nn, ∃ t u, exec (.callNn nn) s = .next t ∧ t.regs.pc = nn ∧ exec .ret t = .next u ∧
    u.regs.pc = s.regs.pc + 3 ∧ u.regs.sp = s.regs.sp) ∧
  (∀ i, ∃ u, exec .reti (s.dispatch i) = .next u ∧ u.regs = s.regs ∧ u.ime = true)

/-! ### System instructions -/

/-- R330 (NOP), R331 (HALT), R333 (DI), R334 (EI). -/
def Obligations.InterruptControl : Prop :=
  ∀ s : State,
  (encode .nop = [0x00] ∧ exec .nop s = .next (s.endAt (s.regs.pc + 1) 4)) ∧
  (encode .halt = [0x76] ∧ exec .halt s = .next ({ s with halted := true }.endAt (s.regs.pc + 1) 4)) ∧
  (encode .di = [0xF3] ∧ exec .di s = .next ({ s with ime := false, eiDelay := 0 }.endAt (s.regs.pc + 1) 4)) ∧
  (encode .ei = [0xFB] ∧
    exec .ei s =
      .next ({ s with eiDelay := if s.eiDelay = 0 then 2 else s.eiDelay }.endAt (s.regs.pc + 1) 4))

/-- R132, R332 (STOP), R336 (the eleven unassigned opcodes), R390, R391, R392: what raising Fatal leaves, and that no other opcode
byte raises it. That such an instruction answers a next state is the model's reading of R390 (DEDUCED: notes/assumptions/6.md); that
`cycles` is 0 in it is the model's choice (DESIGN CHOICE: notes/assumptions/5.md). -/
def Obligations.FatalInstructions : Prop :=
  (∀ s : State,
    encode .stop = [0x10] ∧
    exec .stop s =
      .next ({ s with fatal := some { kind := .stop, opcode := 0x10, pc := s.regs.pc } }.endAt (s.regs.pc + 1) 0)) ∧
  (∀ s : State, ∀ row ∈ ([(.illegalD3, 0xD3), (.illegalDB, 0xDB), (.illegalDD, 0xDD), (.illegalE3, 0xE3),
      (.illegalE4, 0xE4), (.illegalEB, 0xEB), (.illegalEC, 0xEC), (.illegalED, 0xED), (.illegalF4, 0xF4),
      (.illegalFC, 0xFC), (.illegalFD, 0xFD)] : List (Instr × Byte)),
    encode row.1 = [row.2] ∧
    exec row.1 s =
      .next ({ s with fatal := some { kind := .unassigned, opcode := row.2, pc := s.regs.pc } }.endAt
        (s.regs.pc + 1) 0)) ∧
  (∀ (s : State) (op b1 b2 : Byte),
    op ∉ ([0x10, 0xD3, 0xDB, 0xDD, 0xE3, 0xE4, 0xEB, 0xEC, 0xED, 0xF4, 0xFC, 0xFD] : List Byte) →
    ∃ t, exec (decodeAt op b1 b2) s = .next t ∧ t.fatal = s.fatal)

/-- R129, R131, R335: a CB opcode byte selects its instruction by its fields, the bytes 0xCB and it decode to that instruction, and
the table's prefix row runs it. -/
def Obligations.CbPrefix : Prop :=
  ∀ (s : State) (x : Fin 4) (y z : Fin 8),
  let op2 : Byte := BitVec.ofNat 8 (64 * x.val + 8 * y.val + z.val)
  let o : Operand8 := [.reg .b, .reg .c, .reg .d, .reg .e, .reg .h, .reg .l, .atHl, .reg .a][z.val]
  let i : Instr :=
    match x with
    | 0 => Instr.rot ([.rlc, .rrc, .rl, .rr, .sla, .sra, .swap, .srl][y.val]) o
    | 1 => Instr.bit y o
    | 2 => Instr.res y o
    | 3 => Instr.set y o
  decode [0xCB, op2] = .ok (i, []) ∧ encode (.prefixCb op2) = [0xCB, op2] ∧
  exec (.prefixCb op2) s = exec i s ∧ ∃ t, exec (.prefixCb op2) s = .next t ∧ t.regs.pc = s.regs.pc + 2

/-! ### Frames -/

/-- R27, R28, R29, R30, R66, R150: an instruction that stores nothing changes nothing but registers and the interrupt and Fatal
state, and every byte of memory reads as before. -/
def Obligations.NoStoreFrame : Prop :=
  ∀ (i : Instr) (s : State), storedAt i s = [] →
  ∃ t, exec i s = .next t ∧
    t = { s with regs := t.regs, ime := t.ime, eiDelay := t.eiDelay, halted := t.halted, fatal := t.fatal,
                 cycles := t.cycles, draws := t.draws } ∧
    ∀ a : Word, ReadsAsBefore s t a

/-- R61, R63, R76, R78, R79, R81, R83: when an instruction stores to plain RAM only, every other byte of memory reads as before, and
no device, interrupt or cartridge state changes. -/
def Obligations.StoreFrame : Prop :=
  ∀ (i : Instr) (s : State),
  s.vram.Wf → s.wram.Wf → s.oam.Wf → s.hram.Wf → (∀ w ∈ storedAt i s, (regionOf w).isRam = true) →
  ∃ t, exec i s = .next t ∧
    t = { s with regs := t.regs, ime := t.ime, eiDelay := t.eiDelay, halted := t.halted, fatal := t.fatal,
                 cycles := t.cycles, draws := t.draws, vram := t.vram, wram := t.wram, oam := t.oam, hram := t.hram } ∧
    ∀ a : Word, (∀ w ∈ storedAt i s, regionOf a ≠ regionOf w) → ReadsAsBefore s t a

/-- R27: only the instructions whose rules list a flag write one. -/
def Obligations.FlagFrame : Prop :=
  ∀ (i : Instr) (s : State), writesFlags i = false → ∃ t, exec i s = .next t ∧ t.regs.f = s.regs.f

/-- R28, R29, R30, R31, R351, R353: which instructions write the control state, and that no instruction moves the pixel pipeline, the
boot overlay, the cartridge's contents or the host's input: these change between instructions only. What a store does to the other
devices (DIV, the serial port, the DMA register, IF) is in IoRegisters and OamDma. -/
def Obligations.ControlFrame : Prop :=
  ∀ (i : Instr) (s : State), ∃ t, exec i s = .next t ∧
    (t.ime = s.ime ∨ i = .di ∨ i = .reti) ∧ (t.eiDelay = s.eiDelay ∨ i = .di ∨ i = .ei) ∧
    (t.halted = s.halted ∨ i = .halt) ∧
    (t.fatal = s.fatal ∨ i ∈ ([.stop, .illegalD3, .illegalDB, .illegalDD, .illegalE3, .illegalE4, .illegalEB, .illegalEC,
      .illegalED, .illegalF4, .illegalFC, .illegalFD] : List Instr)) ∧
    t.ppu.mode = s.ppu.mode ∧ t.ppu.ly = s.ppu.ly ∧ t.ppu.clock = s.ppu.clock ∧ t.ppu.lycEq = s.ppu.lycEq ∧
    t.ppu.off = s.ppu.off ∧ t.ppu.framebuffer = s.ppu.framebuffer ∧ t.bootActive = s.bootActive ∧
    SameCartridge s t ∧ t.joypInput = s.joypInput ∧ t.joypQueue = s.joypQueue

/-! ### The step -/

/-- R71, R134, R150, R350, R351, R109: a step that starts neither Fatal nor halted takes the input, checks the boot overlay, reads the
bytes of the instruction at PC, which always hold exactly one instruction, runs `exec` of it, and finishes the step; an advance is
that of the timer and then that of the pixel pipeline; the input byte stays as it is from the fetch to the end of the step. Which
byte is the input of a step, the next one of `joypQueue` or else the last one, is the model's choice (DESIGN CHOICE:
notes/assumptions/4.md); that all bytes are read before `exec`, which moves PC, is its reading of R150 (DEDUCED:
notes/assumptions/7.md); and that a Fatal state is the end of its step is its reading of R390 (DEDUCED: notes/assumptions/6.md). -/
def Obligations.StepRuns : Prop :=
  (∀ s : State, s.joypQueue = [] → s.takeInput = s) ∧
  (∀ (s : State) (input : Byte) (rest : List Byte), s.joypQueue = input :: rest →
    s.takeInput = { s with joypInput := input, joypQueue := rest }) ∧
  (∀ s : State, s.takeInput.bootActive = true → s.takeInput.regs.pc = 0x0100 →
    s.beginStep = { s.takeInput with bootActive := false }) ∧
  (∀ s : State, s.takeInput.bootActive = false ∨ s.takeInput.regs.pc ≠ 0x0100 → s.beginStep = s.takeInput) ∧
  (∀ s : State, s.fetchBytes.2 = { s with draws := s.fetchBytes.2.draws }) ∧
  (∀ (s : State) (i : Instr), decode s.fetchBytes.1 = .ok (i, []) → s.fetch = (i, s.fetchBytes.2)) ∧
  (∀ (s : State) (c : Nat), s.advance c = (s.advanceTimer c).advancePpu c) ∧
  (∀ t : State, t.finishStep.joypInput = t.joypInput ∧ t.finishStep.joypQueue = t.joypQueue) ∧
  (∀ s : State, ∃ i, decode s.fetchBytes.1 = .ok (i, []) ∧ i.wellFormed = true) ∧
  (∀ s : State, (∀ k : Nat, k < 3 → s.drawsAt (regionOf (s.regs.pc + BitVec.ofNat 16 k)) = false) →
    s.fetchBytes =
      ([s.readByte s.regs.pc, s.readByte (s.regs.pc + 1), s.readByte (s.regs.pc + 2)].take
        (instrLength (s.readByte s.regs.pc)), s)) ∧
  (∀ (s : State) (i : Instr), s.fatal = none → s.halted = false → decode s.beginStep.fetchBytes.1 = .ok (i, []) →
    step s =
      match exec i s.beginStep.fetchBytes.2 with
      | .next t => .next t.finishStep
      | .fault e => .fault e
      | .refused e => .refused e) ∧
  (∀ t : State, t.fatal = none → t.finishStep = (t.eiCountdown.advance t.cycles).interruptPhase) ∧
  (∀ t : State, t.fatal ≠ none → t.finishStep = t)

/-- R31, R390, R392: a step is enabled exactly while no Fatal condition is recorded; then it answers a next state. That the step which
raises Fatal answers a next state too (R332 and R390: that step does not complete), and that a step from a recorded Fatal condition is
the fault `fatalState` (R390: no step is enabled), is the model's reading (DEDUCED: notes/assumptions/6.md). -/
def Obligations.StepOutcome : Prop :=
  (∀ (s : State) (record : FatalRecord), s.fatal = some record → step s = .fault (.fatalState record)) ∧
  (∀ s : State, s.fatal = none → ∃ t, step s = .next t)

/-- R352: a step that starts halted executes nothing, advances the devices by 4 cycles and checks for an interrupt; with none
pending it leaves the registers as they are and stays halted. -/
def Obligations.HaltedStep : Prop :=
  ∀ s : State, s.fatal = none → s.halted = true →
  let u : State := { s.beginStep with cycles := 4 }.advance 4
  step s = .next u.interruptPhase ∧
  (u.pending = 0 →
    ∃ t, step s = .next t ∧ t.regs = s.regs ∧ t.halted = true ∧ t.cycles = 4 ∧ t.ime = s.ime ∧ t.eiDelay = s.eiDelay)

/-- R360 to R364: the interrupt check. The lowest pending and enabled source is dispatched when `ime` is 1; when it is 0 and the
machine is halted, it is only woken; else nothing happens. -/
def Obligations.InterruptCheck : Prop :=
  ∀ s : State,
  s.pending = s.intEnable &&& s.intFlag &&& 0x1F ∧
  (s.ime = true → s.pending ≠ 0 →
    ∃ i < 5, s.pending.getLsbD i = true ∧ (∀ j < i, s.pending.getLsbD j = false) ∧
      let t := (s.writeByte (s.regs.sp - 1) (hiByte s.regs.pc)).writeByte (s.regs.sp - 2) (loByte s.regs.pc)
      let d : State :=
        { t with regs.sp := s.regs.sp - 2, regs.pc := BitVec.ofNat 16 (0x0040 + 8 * i),
                 intFlag := t.intFlag &&& ~~~((1 : Byte) <<< i), ime := false, halted := false }
      s.interruptCheck = (.dispatched, d) ∧ s.interruptPhase = { d with cycles := d.cycles + 20 }.advance 20) ∧
  (s.ime = false → s.halted = true → s.pending ≠ 0 →
    s.interruptCheck = (.woken, { s with halted := false }) ∧ s.interruptPhase = { s with halted := false }) ∧
  (s.pending = 0 ∨ (s.ime = false ∧ s.halted = false) → s.interruptCheck = (.idle, s) ∧ s.interruptPhase = s)

/-- R334, R356, R333: EI's own step leaves the countdown at 1 and interrupts still disabled; at the end of the next instruction's
step `ime` is set before the interrupt check; a DI in between cancels it. -/
def Obligations.EiLatency : Prop :=
  (∀ s : State,
    (s.eiDelay = 0 → s.eiCountdown = s) ∧
    (s.eiDelay = 1 → s.eiCountdown = { s with eiDelay := 0, ime := true }) ∧
    (1 < s.eiDelay → s.eiCountdown = { s with eiDelay := s.eiDelay - 1 })) ∧
  (∀ s : State, s.fatal = none → s.halted = false → s.ime = false → s.eiDelay = 0 → s.beginStep.fetch.1 = .ei →
    ∃ t, step s = .next t ∧ t.ime = false ∧ t.eiDelay = 1 ∧ t.regs = { s.regs with pc := s.regs.pc + 1 }) ∧
  (∀ s : State, s.fatal = none → s.halted = false → s.eiDelay = 1 →
    s.beginStep.fetch.1 ∉ ([.di, .stop, .illegalD3, .illegalDB, .illegalDD, .illegalE3, .illegalE4, .illegalEB,
      .illegalEC, .illegalED, .illegalF4, .illegalFC, .illegalFD] : List Instr) →
    ∃ u, exec s.beginStep.fetch.1 s.beginStep.fetch.2 = .next u ∧
      step s = .next (({ u with eiDelay := 0, ime := true } : State).advance u.cycles).interruptPhase) ∧
  (∀ s : State, s.fatal = none → s.halted = false → s.beginStep.fetch.1 = .di →
    ∃ t, step s = .next t ∧ t.ime = false ∧ t.eiDelay = 0 ∧ t.regs = { s.regs with pc := s.regs.pc + 1 })

/-! ### Memory -/

/-- R33, R70, R71: while the overlay is in place the first 256 bytes read as BOOT_ROM; a step that starts at 0x0100 removes it, and
nothing else does or puts it back. -/
def Obligations.BootOverlay : Prop :=
  (∀ (s : State) (a : Word), s.bootActive = true → a.toNat < 0x100 → s.readByte a = s.boot.read a.toNat) ∧
  (∀ s t : State, step s = .next t → t.bootActive = (s.bootActive && decide (s.regs.pc ≠ 0x0100)))

/-- R61, R70, R84, R37, R39: no step changes the ROM image, the boot program, the geometry or the kind of the controller, and
`serial_out` only grows at its end. -/
def Obligations.StepKeepsLoad : Prop :=
  ∀ s t : State, step s = .next t → SameCartridge s t ∧ ∃ bytes, t.serial.out = s.serial.out ++ bytes

/-- R72, R73, R75, R89: what the ROM window reads, for each controller. -/
def Obligations.RomBanking : Prop :=
  ∀ (s : State) (a : Word), a.toNat < 0x8000 → (s.bootActive = false ∨ 0x100 ≤ a.toNat) →
  let off := (a &&& 0x3FFF).toNat
  (s.cart.controller = .direct → s.readByte a = s.cart.rom.read a.toNat) ∧
  (∀ r, s.cart.controller = .mbc1 r →
    (a.toNat < 0x4000 →
      s.readByte a =
        s.cart.rom.read ((if r.mode = 1 then (r.bank2.toNat <<< 5) % s.cart.romBanks else 0) * 0x4000 + off)) ∧
    (0x4000 ≤ a.toNat →
      s.readByte a =
        s.cart.rom.read
          (((r.bank2.toNat <<< 5) ||| (if r.bank1 = 0 then 1 else r.bank1.toNat)) % s.cart.romBanks * 0x4000 + off))) ∧
  (∀ r, s.cart.controller = .mbc3 r →
    (a.toNat < 0x4000 → s.readByte a = s.cart.rom.read a.toNat) ∧
    (0x4000 ≤ a.toNat →
      s.readByte a =
        s.cart.rom.read ((if r.romBank = 0 then 1 else r.romBank.toNat) % s.cart.romBanks * 0x4000 + off)))

/-- R74, R77: external RAM, for each controller: disabled or absent RAM reads 0xFF and drops writes; an MBC3 selection that is not
RAM reads as a draw and drops writes; else the access is to the banked cell. That the draw is `Config.freeByte` at the model's own
count `draws` is the model's choice (DESIGN CHOICE: notes/assumptions/1.md). -/
def Obligations.ExternalRam : Prop :=
  ∀ (s : State) (a : Word) (v : Byte), 0xA000 ≤ a.toNat → a.toNat < 0xC000 →
  let off := (a &&& 0x1FFF).toNat
  let absent : Prop := s.readByte a = 0xFF ∧ s.writeByte a v = s
  let cell (index : Nat) : Prop :=
    s.readByte a = s.cart.eram.read index ∧ s.writeByte a v = { s with cart.eram := s.cart.eram.write index v }
  (s.cart.controller = .direct → cell off) ∧
  (∀ r, s.cart.controller = .mbc1 r →
    (r.ramEnable = false ∨ s.cart.ramSize = 0 → absent) ∧
    (r.ramEnable = true → s.cart.ramSize ≠ 0 →
      cell (((if r.mode = 1 then r.bank2.toNat % s.cart.ramBanks else 0) * 0x2000 + off) % s.cart.ramSize))) ∧
  (∀ r, s.cart.controller = .mbc3 r →
    (r.ramEnable = false → absent) ∧
    (r.ramEnable = true → r.ramBank.toNat ≤ 3 → s.cart.ramSize = 0 → absent) ∧
    (r.ramEnable = true → r.ramBank.toNat ≤ 3 → s.cart.ramSize ≠ 0 →
      cell ((r.ramBank.toNat % s.cart.ramBanks * 0x2000 + off) % s.cart.ramSize)) ∧
    (r.ramEnable = true → 4 ≤ r.ramBank.toNat →
      s.readByte a = Config.freeByte s.draws ∧ s.afterRead a = { s with draws := s.draws + 1 } ∧ s.writeByte a v = s))

/-- R46, R61, R86, R87, R88: a write to the ROM window changes the controller's registers and nothing else. -/
def Obligations.ControllerWrites : Prop :=
  ∀ (s : State) (a : Word) (v : Byte), a.toNat < 0x8000 →
  let wrote (c : Controller) : Prop := s.writeByte a v = { s with cart.controller := c }
  (s.cart.controller = .direct → s.writeByte a v = s) ∧
  (∀ r, s.cart.controller = .mbc1 r →
    (a.toNat ≤ 0x1FFF → wrote (.mbc1 { r with ramEnable := decide (v &&& 0x0F = 0x0A) })) ∧
    (0x2000 ≤ a.toNat → a.toNat ≤ 0x3FFF → wrote (.mbc1 { r with bank1 := (v &&& 0x1F).setWidth 5 })) ∧
    (0x4000 ≤ a.toNat → a.toNat ≤ 0x5FFF → wrote (.mbc1 { r with bank2 := (v &&& 0x03).setWidth 2 })) ∧
    (0x6000 ≤ a.toNat → wrote (.mbc1 { r with mode := (v &&& 0x01).setWidth 1 }))) ∧
  (∀ r, s.cart.controller = .mbc3 r →
    (a.toNat ≤ 0x1FFF → wrote (.mbc3 { r with ramEnable := decide (v &&& 0x0F = 0x0A) })) ∧
    (0x2000 ≤ a.toNat → a.toNat ≤ 0x3FFF → wrote (.mbc3 { r with romBank := (v &&& 0x7F).setWidth 7 })) ∧
    (0x4000 ≤ a.toNat → a.toNat ≤ 0x5FFF → wrote (.mbc3 { r with ramBank := v })) ∧
    (0x6000 ≤ a.toNat → s.writeByte a v = s))

/-- R60, R61, R66, R76, R78 to R81, R83: the rows of the map that are plain storage or no storage, and that a read changes nothing
but the count of draws. That the draw of 0xFEA0-0xFEFF is `Config.freeByte` at the model's own count `draws`, which a read that draws
moves on, is the model's choice (DESIGN CHOICE: notes/assumptions/1.md). -/
def Obligations.MemoryMap : Prop :=
  ∀ (s : State) (a : Word) (v : Byte),
  (0x8000 ≤ a.toNat → a.toNat ≤ 0x9FFF →
    s.readByte a = s.vram.read (a.toNat - 0x8000) ∧
    s.writeByte a v = { s with vram := s.vram.write (a.toNat - 0x8000) v }) ∧
  (0xC000 ≤ a.toNat → a.toNat ≤ 0xDFFF →
    s.readByte a = s.wram.read (a.toNat - 0xC000) ∧
    s.writeByte a v = { s with wram := s.wram.write (a.toNat - 0xC000) v }) ∧
  (0xE000 ≤ a.toNat → a.toNat ≤ 0xFDFF →
    s.readByte a = s.wram.read (a.toNat - 0xE000) ∧
    s.writeByte a v = { s with wram := s.wram.write (a.toNat - 0xE000) v }) ∧
  (0xFE00 ≤ a.toNat → a.toNat ≤ 0xFE9F →
    s.readByte a = s.oam.read (a.toNat - 0xFE00) ∧
    s.writeByte a v = { s with oam := s.oam.write (a.toNat - 0xFE00) v }) ∧
  (0xFEA0 ≤ a.toNat → a.toNat ≤ 0xFEFF →
    s.readByte a = Config.freeByte s.draws ∧ s.afterRead a = { s with draws := s.draws + 1 } ∧ s.writeByte a v = s) ∧
  (0xFF80 ≤ a.toNat → a.toNat ≤ 0xFFFE →
    s.readByte a = s.hram.read (a.toNat - 0xFF80) ∧
    s.writeByte a v = { s with hram := s.hram.write (a.toNat - 0xFF80) v }) ∧
  (a = 0xFFFF → s.readByte a = s.intEnable ∧ s.writeByte a v = { s with intEnable := v }) ∧
  s.afterRead a = { s with draws := (s.afterRead a).draws } ∧
  (s.drawsAt (regionOf a) = false → s.afterRead a = s)

/-- R76, R78, R79, R81, R83: plain RAM reads what was last written; a write there leaves every other cell alone; and work RAM and its
echo show the same byte. -/
def Obligations.RamReadBack : Prop :=
  ∀ (s : State) (a : Word) (v : Byte), s.vram.Wf → s.wram.Wf → s.oam.Wf → s.hram.Wf → (regionOf a).isRam = true →
  (s.writeByte a v).readByte a = v ∧
  (∀ b : Word, regionOf b ≠ regionOf a → ReadsAsBefore s (s.writeByte a v) b) ∧
  (0xC000 ≤ a.toNat → a.toNat ≤ 0xDDFF → (s.writeByte a v).readByte (a + 0x2000) = v) ∧
  (0xE000 ≤ a.toNat → a.toNat ≤ 0xFDFF → (s.writeByte a v).readByte (a - 0x2000) = v)

/-- R44, R45, R90 to R95, R97 to R100: the I/O registers but DMA: what each reads and what a write to it does. -/
def Obligations.IoRegisters : Prop :=
  ∀ (s : State) (v : Byte),
  (s.writeByte 0xFF00 v = { s with joypSel := (v >>> 4).setWidth 2 } ∧
    s.readByte 0xFF00 =
      (let low0 : Byte := 0x0F
       let low1 := if s.joypSel[0] = false then low0 &&& s.joypInput &&& 0x0F else low0
       let low2 := if s.joypSel[1] = false then low1 &&& (s.joypInput >>> 4) else low1
       0xC0 ||| (s.joypSel.setWidth 8 <<< 4) ||| low2)) ∧
  (s.writeByte 0xFF01 v = { s with serial.sb := v } ∧ s.readByte 0xFF01 = s.serial.sb) ∧
  ((v[7] = true →
      s.writeByte 0xFF02 v = { s with serial.sc := v &&& 0x7F, serial.out := s.serial.out ++ [s.serial.sb] }) ∧
    (v[7] = false → s.writeByte 0xFF02 v = { s with serial.sc := v }) ∧ s.readByte 0xFF02 = s.serial.sc) ∧
  (s.writeByte 0xFF04 v = { s with timer.div := 0, timer.divAcc := 0, timer.timaAcc := 0 } ∧
    s.readByte 0xFF04 = s.timer.div) ∧
  (s.writeByte 0xFF05 v = { s with timer.tima := v } ∧ s.readByte 0xFF05 = s.timer.tima) ∧
  (s.writeByte 0xFF06 v = { s with timer.tma := v } ∧ s.readByte 0xFF06 = s.timer.tma) ∧
  (s.writeByte 0xFF07 v = { s with timer.tac := v } ∧ s.readByte 0xFF07 = s.timer.tac) ∧
  (s.writeByte 0xFF0F v = { s with intFlag := v } ∧ s.readByte 0xFF0F = s.intFlag) ∧
  (s.writeByte 0xFF40 v = { s with ppu.lcdc := v } ∧ s.readByte 0xFF40 = s.ppu.lcdc) ∧
  (s.writeByte 0xFF41 v = { s with ppu.stat := (v >>> 3).setWidth 5 } ∧
    (s.readByte 0xFF41).toNat =
      s.ppu.stat.toNat * 8 + s.ppu.lycEq.toNat * 4 +
        (match s.ppu.mode with | .hblank => 0 | .vblank => 1 | .oamScan => 2 | .drawing => 3)) ∧
  (s.writeByte 0xFF42 v = { s with ppu.scy := v } ∧ s.readByte 0xFF42 = s.ppu.scy) ∧
  (s.writeByte 0xFF43 v = { s with ppu.scx := v } ∧ s.readByte 0xFF43 = s.ppu.scx) ∧
  (s.writeByte 0xFF44 v = s ∧ s.readByte 0xFF44 = s.ppu.ly) ∧
  (s.writeByte 0xFF45 v = { s with ppu.lyc := v } ∧ s.readByte 0xFF45 = s.ppu.lyc) ∧
  (s.writeByte 0xFF47 v = { s with ppu.bgp := v } ∧ s.readByte 0xFF47 = s.ppu.bgp) ∧
  (s.writeByte 0xFF48 v = { s with ppu.obp0 := v } ∧ s.readByte 0xFF48 = s.ppu.obp0) ∧
  (s.writeByte 0xFF49 v = { s with ppu.obp1 := v } ∧ s.readByte 0xFF49 = s.ppu.obp1) ∧
  (s.writeByte 0xFF4A v = { s with ppu.wy := v } ∧ s.readByte 0xFF4A = s.ppu.wy) ∧
  (s.writeByte 0xFF4B v = { s with ppu.wx := v } ∧ s.readByte 0xFF4B = s.ppu.wx) ∧
  (∀ a : Word, 0xFF00 ≤ a.toNat → a.toNat ≤ 0xFF7F →
    a.toNat ∉ [0xFF00, 0xFF01, 0xFF02, 0xFF04, 0xFF05, 0xFF06, 0xFF07, 0xFF0F, 0xFF40, 0xFF41, 0xFF42, 0xFF43, 0xFF44,
      0xFF45, 0xFF46, 0xFF47, 0xFF48, 0xFF49, 0xFF4A, 0xFF4B] →
    s.readByte a = s.io.read (a.toNat - 0xFF00) ∧
    s.writeByte a v = { s with io := s.io.write (a.toNat - 0xFF00) v })

/-- R96: a write of v to the DMA register stores v and copies the 160 bytes from v * 256 on into OAM, each as `MemRead` gives it: the
byte read before the copy, or, from an MBC3 selection that is not RAM, a draw of its own for each byte. That those draws are
`Config.freeByte` at the model's own count `draws` and on is the model's choice (DESIGN CHOICE: notes/assumptions/1.md). -/
def Obligations.OamDma : Prop :=
  ∀ (s : State) (v : Byte), s.oam.Wf →
  let t := s.writeByte 0xFF46 v
  let s1 : State := { s with dma := v }
  let src (i : Nat) : Word := BitVec.ofNat 16 (v.toNat * 256 + i)
  t = { s1 with oam := t.oam, draws := t.draws } ∧ t.readByte 0xFF46 = v ∧
  (∀ i : Nat, i < 160 → s1.drawsAt (regionOf (src 0)) = false → t.oam.read i = s1.readByte (src i)) ∧
  (∀ i : Nat, i < 160 → s1.drawsAt (regionOf (src 0)) = true → t.oam.read i = Config.freeByte (s.draws + i)) ∧
  (∀ off : Nat, 160 ≤ off → t.oam.read off = s.oam.read off)

/-! ### Timer and pixel pipeline -/

/-- R400, R402: AdvanceTimer. It touches DIV, TIMA, the two accumulators and IF only; advancing twice is advancing by the sum; DIV
counts once per 256 cycles whatever TAC is; TIMA stands still while the timer is disabled, and while it is enabled each full period
takes the period off the accumulator and adds 1, or at 0xFF reloads from TMA and raises the timer request. -/
def Obligations.TimerAdvance : Prop :=
  (∀ (s : State) (c : Nat),
    let t := s.advanceTimer c
    t = { s with timer := { t.timer with tma := s.timer.tma, tac := s.timer.tac }, intFlag := t.intFlag } ∧
    t.timer.div = s.timer.div + BitVec.ofNat 8 ((s.timer.divAcc + c) / 256) ∧
    t.timer.divAcc = (s.timer.divAcc + c) % 256) ∧
  (∀ (s : State) (c d : Nat), (s.advanceTimer c).advanceTimer d = s.advanceTimer (c + d)) ∧
  (∀ s : State, s.timer.divAcc < 256 →
    (s.advanceTimer 256).timer.div = s.timer.div + 1 ∧ (s.advanceTimer 256).timer.divAcc = s.timer.divAcc) ∧
  (∀ (s : State) (c : Nat), s.timer.tac[2] = false →
    (s.advanceTimer c).timer.tima = s.timer.tima ∧ (s.advanceTimer c).timer.timaAcc = s.timer.timaAcc ∧
    (s.advanceTimer c).intFlag = s.intFlag) ∧
  (∀ (s : State) (c : Nat), s.timer.tac[2] = true →
    let t := s.advanceTimer c
    let p := [1024, 16, 64, 256].getD (s.timer.tac &&& 3).toNat 0
    (s.timer.timaAcc + c < p →
      t.timer.tima = s.timer.tima ∧ t.timer.timaAcc = s.timer.timaAcc + c ∧ t.intFlag = s.intFlag) ∧
    (p ≤ s.timer.timaAcc + c →
      let u : State :=
        { s with timer.timaAcc := s.timer.timaAcc + c - p,
                 timer.tima := if s.timer.tima = 0xFF then s.timer.tma else s.timer.tima + 1,
                 intFlag := if s.timer.tima = 0xFF then s.intFlag ||| 0x04 else s.intFlag }
      t = { u.advanceTimer 0 with timer.div := t.timer.div, timer.divAcc := t.timer.divAcc })) ∧
  (∀ s : State, s.timer.tac = 0x05 → s.timer.tima = 0xFE → s.timer.tma = 0x80 → s.timer.timaAcc = 0 →
    (s.advanceTimer 32).timer.tima = 0x80 ∧ (s.advanceTimer 32).intFlag[2] = true)

/-- R410 to R413: AdvancePPU, one transition at a time. -/
def Obligations.PpuTransitions : Prop :=
  (∀ (s : State) (c : Nat), s.ppu.lcdc[7] = false →
    s.advancePpu c = { s with ppu.off := true, ppu.ly := 0, ppu.mode := .hblank, ppu.clock := 0 }) ∧
  (∀ (s : State) (c : Nat), s.ppu.lcdc[7] = true → s.ppu.off = true →
    s.advancePpu c =
      { s with ppu.off := false, ppu.mode := .oamScan, ppu.clock := 0, ppu.ly := 0 }.advancePpu c) ∧
  (∀ (s : State) (c : Nat), s.ppu.lcdc[7] = true → s.ppu.off = false →
    let budget := match s.ppu.mode with | .oamScan => 80 | .drawing => 172 | .hblank => 204 | .vblank => 456
    let u : State := { s with ppu.clock := s.ppu.clock + c - budget }
    (s.ppu.clock + c < budget → s.advancePpu c = { s with ppu.clock := s.ppu.clock + c }) ∧
    (budget ≤ s.ppu.clock + c →
      (s.ppu.mode = .oamScan → s.advancePpu c = { u with ppu.mode := .drawing }.advancePpu 0) ∧
      (s.ppu.mode = .drawing → s.advancePpu c = ((u.renderLine s.ppu.ly.toNat).setMode .hblank).advancePpu 0) ∧
      (s.ppu.mode = .hblank → s.ppu.ly + 1 ≠ 144 →
        s.advancePpu c = ((u.setLy (s.ppu.ly + 1)).setMode .oamScan).advancePpu 0) ∧
      (s.ppu.mode = .hblank → s.ppu.ly + 1 = 144 →
        s.advancePpu c =
          ({ (u.setLy 144).setMode .vblank with
             intFlag := ((u.setLy 144).setMode .vblank).intFlag ||| 0x01 } : State).advancePpu 0) ∧
      (s.ppu.mode = .vblank → s.ppu.ly ≠ 153 → s.advancePpu c = (u.setLy (s.ppu.ly + 1)).advancePpu 0) ∧
      (s.ppu.mode = .vblank → s.ppu.ly = 153 → s.advancePpu c = ((u.setLy 0).setMode .oamScan).advancePpu 0))) ∧
  (∀ s : State,
    s.setMode .drawing = { s with ppu.mode := .drawing } ∧
    (∀ m (bit : Nat), (m, bit) ∈ [(PpuMode.hblank, 3), (.vblank, 4), (.oamScan, 5)] →
      s.setMode m =
        { s with ppu.mode := m,
                 intFlag := if (s.readByte 0xFF41).getLsbD bit = true then s.intFlag ||| 0x02 else s.intFlag }) ∧
    (∀ n : Byte,
      s.setLy n =
        { s with ppu.ly := n, ppu.lycEq := decide (n = s.ppu.lyc),
                 intFlag :=
                   if n = s.ppu.lyc ∧ (s.readByte 0xFF41).getLsbD 6 = true then s.intFlag ||| 0x02 else s.intFlag }))

/-- R414: with the display on, the pipeline moves through its frame of 70224 cycles, in any split into calls; so a whole frame
returns mode, LY and clock to where they were. -/
def Obligations.PpuFrame : Prop :=
  (∀ (s : State) (c d : Nat), s.ppu.lcdc[7] = true → (s.advancePpu c).advancePpu d = s.advancePpu (c + d)) ∧
  (∀ (s : State) (c : Nat), s.ppu.Ok → s.ppu.lcdc[7] = true → s.ppu.off = false →
    (s.advancePpu c).ppu.position = (s.ppu.position + c) % 70224) ∧
  (∀ (s : State) (calls : List Nat), s.ppu.Ok → s.ppu.lcdc[7] = true → s.ppu.off = false → calls.sum = 70224 →
    let t := calls.foldl State.advancePpu s
    t.ppu.mode = s.ppu.mode ∧ t.ppu.ly = s.ppu.ly ∧ t.ppu.clock = s.ppu.clock)

/-- R360, R361: the devices only ever set request bits, and only those of VBlank, STAT and Timer. -/
def Obligations.DeviceRequests : Prop :=
  ∀ (s : State) (c : Nat),
    (s.advance c).intFlag &&& s.intFlag = s.intFlag ∧ (s.advance c).intFlag &&& 0xF8 = s.intFlag &&& 0xF8

/-- R420, R425 (and R7's shade colours): rendering a line writes that line of the framebuffer and nothing else; a column has the
colour of its shade; with background and objects disabled the line is white; the shade of a background or window column is the one its
tile map, its tile and the palette give; and with objects disabled that shade is drawn. That a line is written at once, from the
final shade of each column, is the model's reading of R420 and R423 (DEDUCED: notes/assumptions/11.md). -/
def Obligations.RenderLine : Prop :=
  (∀ (s : State) (ly : Nat),
    s.renderLine ly = { s with ppu.framebuffer := (s.renderLine ly).ppu.framebuffer } ∧
    (∀ off : Nat, off < ly * 640 ∨ (ly + 1) * 640 ≤ off →
      (s.renderLine ly).ppu.framebuffer.read off = s.ppu.framebuffer.read off) ∧
    (s.ppu.lcdc[0] = false → s.ppu.lcdc[1] = false → ∀ x k : Nat, x < 160 → k < 4 →
      (s.renderLine ly).ppu.framebuffer.read ((ly * 160 + x) * 4 + k) = 0xFF)) ∧
  (∀ (s : State) (ly x : Nat), ly < 144 → x < 160 →
    let pixel (map px py : Nat) : Nat :=
      let t := s.readByte (BitVec.ofNat 16 (map + py / 8 * 32 + px / 8))
      let base : Word :=
        if s.ppu.lcdc[4] = true then 0x8000 + 16 * t.setWidth 16 else 0x9000 + 16 * t.signExtend 16
      let lo := s.readByte (base + 2 * BitVec.ofNat 16 (py % 8))
      let hi := s.readByte (base + 2 * BitVec.ofNat 16 (py % 8) + 1)
      let ci := 2 * (hi.getLsbD (7 - px % 8)).toNat + (lo.getLsbD (7 - px % 8)).toNat
      ((s.ppu.bgp >>> (2 * ci)) &&& 3).toNat
    let rgba (shade k : Nat) : Byte := if k = 3 then 0xFF else 0xFF - 0x55 * BitVec.ofNat 8 shade
    (s.ppu.lcdc[0] = false → s.bgShade ly x = 0) ∧
    (s.ppu.lcdc[0] = true → s.ppu.lcdc[5] = true → s.ppu.wy.toNat ≤ ly → s.ppu.wx.toNat ≤ x + 7 →
      s.bgShade ly x =
        pixel (if s.ppu.lcdc[6] = true then 0x9C00 else 0x9800) (x + 7 - s.ppu.wx.toNat) (ly - s.ppu.wy.toNat)) ∧
    (s.ppu.lcdc[0] = true → (s.ppu.lcdc[5] = false ∨ ly < s.ppu.wy.toNat ∨ x + 7 < s.ppu.wx.toNat) →
      s.bgShade ly x =
        pixel (if s.ppu.lcdc[3] = true then 0x9C00 else 0x9800) ((x + s.ppu.scx.toNat) % 256)
          ((ly + s.ppu.scy.toNat) % 256)) ∧
    (∀ k < 4, (s.renderLine ly).ppu.framebuffer.read ((ly * 160 + x) * 4 + k) =
      rgba (s.pixelShade (s.selectObjects ly) ly x) k) ∧
    (s.ppu.lcdc[1] = false → ∀ k < 4,
      (s.renderLine ly).ppu.framebuffer.read ((ly * 160 + x) * 4 + k) = rgba (s.bgShade ly x) k))

/-- R421, R422, R423, R424: the objects of a line. The selected entries are exactly the first ten that cover the line, from left to
right and at the same X in OAM order; the pixel of an entry; and the shade of a column: that of the first selected entry which covers
the column with an opaque pixel, unless it asks for background priority over a background that is not the lightest shade. RenderLine
says that this shade is drawn. That the shade of a column is decided before it is written is the model's reading of R423 (DEDUCED:
notes/assumptions/11.md). -/
def Obligations.RenderObjects : Prop :=
  (∀ (s : State) (k : Nat), k < 40 →
    let byte (j : Nat) : Byte := s.readByte (BitVec.ofNat 16 (0xFE00 + 4 * k + j))
    s.objEntry k = { y := byte 0, x := byte 1, tile := byte 2, flags := byte 3 }) ∧
  (∀ (s : State) (ly : Nat), s.ppu.lcdc[1] = false → s.selectObjects ly = []) ∧
  (∀ (s : State) (ly : Nat), s.ppu.lcdc[1] = true →
    let h : Int := if s.ppu.lcdc[2] = true then 16 else 8
    let top (k : Nat) : Int := ((s.objEntry k).y.toNat : Int) - 16
    let left (k : Nat) : Int := ((s.objEntry k).x.toNat : Int) - 8
    let first := ((List.range 40).filter (fun k => decide (top k ≤ ly ∧ (ly : Int) < top k + h))).take 10
    ∃ ks : List Nat, ks.Perm first ∧ ks.Pairwise (fun j k => left j < left k ∨ (left j = left k ∧ j < k)) ∧
      s.selectObjects ly = ks.map s.objEntry) ∧
  (∀ (s : State) (o : ObjEntry) (ly x : Nat),
    let h : Nat := if s.ppu.lcdc[2] = true then 16 else 8
    o.y.toNat ≤ ly + 16 → ly + 16 < o.y.toNat + h → o.x.toNat ≤ x + 8 → x < o.x.toNat →
    let r := ly + 16 - o.y.toNat
    let row := if o.flags[6] = true then h - 1 - r else r
    let tile := if s.ppu.lcdc[2] = true then o.tile &&& 0xFE else o.tile
    let lo := s.readByte (BitVec.ofNat 16 (0x8000 + 16 * tile.toNat + 2 * row))
    let hi := s.readByte (BitVec.ofNat 16 (0x8000 + 16 * tile.toNat + 2 * row + 1))
    let j := x + 8 - o.x.toNat
    let b := if o.flags[5] = true then j else 7 - j
    s.objPixel o ly x = 2 * (hi.getLsbD b).toNat + (lo.getLsbD b).toNat) ∧
  (∀ (s : State) (objects : List ObjEntry) (ly x : Nat),
    let shows (o : ObjEntry) : Prop := o.x.toNat ≤ x + 8 ∧ x < o.x.toNat ∧ s.objPixel o ly x ≠ 0
    ((∀ o ∈ objects, ¬ shows o) → s.pixelShade objects ly x = s.bgShade ly x) ∧
    (∀ (above below : List ObjEntry) (o : ObjEntry), objects = above ++ o :: below → (∀ p ∈ above, ¬ shows p) → shows o →
      s.pixelShade objects ly x =
        if o.flags[7] = true ∧ s.bgShade ly x ≠ 0 then s.bgShade ly x
        else (((if o.flags[4] = true then s.ppu.obp1 else s.ppu.obp0) >>> (2 * s.objPixel o ly x)) &&& 3).toNat))

/-! ### Reset and load -/

/-- R450, R451, R452: the state that a load creates. -/
def Obligations.ResetValues : Prop :=
  ∀ (cart boot : List Byte) (init : InitMem) (s : State), load cart boot init = .ok s →
  (s.regs.a = 0 ∧ s.regs.b = 0 ∧ s.regs.c = 0 ∧ s.regs.d = 0 ∧ s.regs.e = 0 ∧ s.regs.h = 0 ∧ s.regs.l = 0 ∧
    s.regs.f.z = false ∧ s.regs.f.n = false ∧ s.regs.f.h = decide (cart.getD 0x14D 0 ≠ 0) ∧
    s.regs.f.c = decide (cart.getD 0x14D 0 ≠ 0) ∧ s.regs.sp = 0x0000 ∧ s.regs.pc = 0x0000) ∧
  (s.ime = false ∧ s.eiDelay = 0 ∧ s.halted = false ∧ s.fatal = none ∧ s.bootActive = true) ∧
  ((∀ k, s.boot.read k = boot.getD k 0) ∧ (∀ k, s.cart.rom.read k = cart.getD k 0)) ∧
  (s.vram = init.vram ∧ s.wram = init.wram ∧ s.oam = init.oam ∧ s.hram = init.hram ∧ s.cart.eram = init.eram) ∧
  ((∀ k, s.io.read k = 0) ∧ s.intEnable = 0 ∧ s.intFlag = 0 ∧ s.joypSel = 0 ∧ s.serial.sb = 0 ∧ s.serial.sc = 0 ∧
    s.serial.out = [] ∧ s.dma = 0) ∧
  (s.timer.div = 0 ∧ s.timer.tima = 0 ∧ s.timer.tma = 0 ∧ s.timer.tac = 0 ∧ s.timer.divAcc = 0 ∧ s.timer.timaAcc = 0) ∧
  (s.ppu.lcdc = 0 ∧ s.ppu.stat = 0 ∧ s.ppu.scy = 0 ∧ s.ppu.scx = 0 ∧ s.ppu.lyc = 0 ∧ s.ppu.bgp = 0 ∧ s.ppu.obp0 = 0 ∧
    s.ppu.obp1 = 0 ∧ s.ppu.wy = 0 ∧ s.ppu.wx = 0 ∧ s.ppu.mode = .oamScan ∧ s.ppu.ly = 0 ∧ s.ppu.clock = 0 ∧
    s.ppu.lycEq = true ∧ s.ppu.off = false ∧ ∀ k, s.ppu.framebuffer.read k = 0) ∧
  selectController (cart.getD 0x147 0) = some s.cart.controller ∧
  (match s.cart.controller with
   | .direct => True
   | .mbc1 r => r.ramEnable = false ∧ r.bank1 = 0 ∧ r.bank2 = 0 ∧ r.mode = 0
   | .mbc3 r => r.ramEnable = false ∧ r.romBank = 0 ∧ r.ramBank = 0)

/-- R84, R85, R453: exactly which images load, with which controller and geometry. -/
def Obligations.LoadGeometry : Prop :=
  ∀ (cart boot : List Byte) (init : InitMem),
  let code := (cart.getD 0x147 0).toNat
  let n := (cart.getD 0x148 0).toNat
  let m := (cart.getD 0x149 0).toNat
  let direct := code = 0x00 ∨ code = 0x08 ∨ code = 0x09
  let mbc1 := 0x01 ≤ code ∧ code ≤ 0x03
  let mbc3 := 0x0F ≤ code ∧ code ≤ 0x13
  ((∃ s, load cart boot init = .ok s) ↔
    (boot.length = 256 ∧ 0x150 ≤ cart.length ∧ (direct ∨ mbc1 ∨ mbc3) ∧ n ≤ 8 ∧ (direct → n = 0) ∧
      cart.length = (2 <<< n) * 0x4000 ∧ m ≤ 5)) ∧
  (boot.length ≠ 256 → load cart boot init = .error .badBoot) ∧
  (boot.length = 256 → cart.length < 0x150 → load cart boot init = .error .shortImage) ∧
  (∀ s, load cart boot init = .ok s →
    (direct → s.cart.controller = .direct) ∧ (mbc1 → ∃ r, s.cart.controller = .mbc1 r) ∧
    (mbc3 → ∃ r, s.cart.controller = .mbc3 r) ∧
    s.cart.romBanks = 2 <<< n ∧ s.cart.ramSize = [0, 0x800, 0x2000, 0x8000, 0x20000, 0x10000].getD m 0 ∧
    s.cart.ramBanks = (if s.cart.ramSize = 0 then 0 else max 1 (s.cart.ramSize / 0x2000)))

/-! ### Invariants -/

/-- R32, R35, R36, R29, R410: the state after reset is sound (its RAM and ROM are the choice of notes/assumptions/2.md and 3.md). -/
def Obligations.ResetInv : Prop := State.reset.Inv

/-- R32, R85, R450, R453: a load with canonical INIT_MEM inside its storages creates a sound state. -/
def Obligations.LoadInv : Prop :=
  ∀ (cart boot : List Byte) (init : InitMem) (s : State), load cart boot init = .ok s →
  (init.vram.Wf ∧ init.vram.Within 0x2000) → (init.wram.Wf ∧ init.wram.Within 0x2000) →
  (init.oam.Wf ∧ init.oam.Within 0xA0) → (init.hram.Wf ∧ init.hram.Within 0x7F) →
  (init.eram.Wf ∧ init.eram.Within s.cart.eramSize) → s.Inv

/-- R32, R35, R36, R29, R45, R410, R413: every step keeps the invariant: the storages canonical and inside their sizes, a geometry
of R85, the accumulators below their periods, the pipeline's clock below its budget and LY in its mode's range, the countdown at
most 2, SC[7] = 0. -/
def Obligations.StepKeepsInv : Prop :=
  ∀ s t : State, s.Inv → step s = .next t → t.Inv

/-- R354, R390, R470: a run with any inputs from a sound state keeps the invariant and what was loaded; it stops only where a Fatal
condition is recorded, so a run that meets none goes on for as long as the host drives it. That such a stop is the fault `fatalState`
of the step after the one that raised Fatal is the model's reading of R390 (DEDUCED: notes/assumptions/6.md); that a run supplies each
step's input through `joypQueue` is its choice (DESIGN CHOICE: notes/assumptions/4.md). -/
def Obligations.RunKeeps : Prop :=
  (∀ (inputs : List Byte) (s t : State), s.Inv → runWith inputs s = .next t → t.Inv ∧ SameCartridge s t) ∧
  (∀ (inputs : List Byte) (s : State),
    (∃ t, runWith inputs s = .next t) ∨ (∃ record, runWith inputs s = .fault (.fatalState record)))
end

