-- ==== Sys2Proof/Laws/Memory.lean ====
section
/-! SUPPORT. The laws of one storage: a read after a write, and that every operation keeps the canonical form and the size. -/

namespace Sys2Proof.Machine

@[simp] theorem Memory.read_nil (off : Nat) : Memory.read [] off = 0 := rfl

theorem Memory.read_cons_cell (k : Nat) (v : Byte) (m : Memory) (off : Nat) :
    Memory.read ((k, v) :: m) off = if k = off then v else Memory.read m off := rfl

/-- Below the first listed offset everything reads 0. -/
theorem Memory.read_of_lt {m : Memory} {off : Nat} (h : ∀ cell ∈ m, off < cell.1) : m.read off = 0 := by
  induction m with
  | nil => rfl
  | cons cell m ih =>
    have h0 := h cell (by simp)
    rw [Memory.read_cons_cell, if_neg (by omega)]
    exact ih fun c hc => h c (by simp [hc])

/-- Reading through `cons`, when the cells after it are further on. -/
theorem Memory.read_cons {m : Memory} {off k : Nat} {v : Byte} (h : ∀ cell ∈ m, k < cell.1) :
    (Memory.cons k v m).read off = if k = off then v else m.read off := by
  unfold Memory.cons
  split
  · rename_i hv
    split
    · subst_vars; exact Memory.read_of_lt h
    · rfl
  · rfl

theorem Memory.mem_cons {m : Memory} {k : Nat} {v : Byte} {cell : Host.Cell} (h : cell ∈ Memory.cons k v m) :
    cell = (k, v) ∨ cell ∈ m := by
  unfold Memory.cons at h
  split at h
  · exact .inr h
  · simpa using h

/-- The cells after a write: the written one and old ones. -/
theorem Memory.mem_write {m : Memory} {off : Nat} {v : Byte} {cell : Host.Cell} (h : cell ∈ m.write off v) :
    cell = (off, v) ∨ cell ∈ m := by
  induction m with
  | nil => simpa using Memory.mem_cons h
  | cons c m ih =>
    obtain ⟨k, w⟩ := c
    unfold Memory.write at h
    split at h
    · rcases List.mem_cons.mp h with rfl | h
      · simp
      · rcases ih h with h | h <;> simp [h]
    · split at h
      · rcases Memory.mem_cons h with h | h <;> simp [h]
      · exact Memory.mem_cons h

theorem Memory.Wf.tail {cell : Host.Cell} {m : Memory} (h : Memory.Wf (cell :: m)) : Memory.Wf m :=
  ⟨(List.pairwise_cons.mp h.1).2, fun c hc => h.2 c (by simp [hc])⟩

theorem Memory.Wf.lt {cell : Host.Cell} {m : Memory} (h : Memory.Wf (cell :: m)) : ∀ c ∈ m, cell.1 < c.1 :=
  (List.pairwise_cons.mp h.1).1

/-- A read after a write: the written byte at its offset, the old byte everywhere else. -/
theorem Memory.read_write {m : Memory} (hm : m.Wf) (off : Nat) (v : Byte) (off' : Nat) :
    (m.write off v).read off' = if off = off' then v else m.read off' := by
  induction m with
  | nil => simpa [Memory.write] using Memory.read_cons (m := []) (k := off) (v := v) (off := off') (by simp)
  | cons c m ih =>
    obtain ⟨k, w⟩ := c
    have hlt := hm.lt
    unfold Memory.write
    split
    · rw [Memory.read_cons_cell, Memory.read_cons_cell, ih hm.tail]
      split
      · rw [if_neg (by omega)]
      · rfl
    · split
      · subst_vars
        rw [Memory.read_cons hlt, Memory.read_cons_cell]
        split <;> rfl
      · rw [Memory.read_cons]
        intro c hc
        rcases List.mem_cons.mp hc with rfl | hc
        · simp only; omega
        · have := hlt c hc; simp only at this; omega

theorem Memory.read_write_same {m : Memory} (hm : m.Wf) (off : Nat) (v : Byte) : (m.write off v).read off = v := by
  simp [Memory.read_write hm]

theorem Memory.read_write_ne {m : Memory} (hm : m.Wf) {off off' : Nat} (v : Byte) (h : off ≠ off') :
    (m.write off v).read off' = m.read off' := by
  simp [Memory.read_write hm, h]

theorem Memory.cons_wf {m : Memory} (hm : m.Wf) {k : Nat} {v : Byte} (h : ∀ cell ∈ m, k < cell.1) :
    (Memory.cons k v m).Wf := by
  unfold Memory.cons
  split
  · exact hm
  · rename_i hv
    exact ⟨List.pairwise_cons.mpr ⟨h, hm.1⟩, by
      intro c hc
      rcases List.mem_cons.mp hc with rfl | hc
      · exact hv
      · exact hm.2 c hc⟩

/-- A write keeps the canonical form. -/
theorem Memory.write_wf {m : Memory} (hm : m.Wf) (off : Nat) (v : Byte) : (m.write off v).Wf := by
  induction m with
  | nil => exact Memory.cons_wf ⟨List.Pairwise.nil, by simp⟩ (by simp)
  | cons c m ih =>
    obtain ⟨k, w⟩ := c
    have hlt := hm.lt
    unfold Memory.write
    split
    · refine ⟨List.pairwise_cons.mpr ⟨fun c hc => ?_, (ih hm.tail).1⟩, fun c hc => ?_⟩
      · rcases Memory.mem_write hc with rfl | hc
        · assumption
        · exact hlt c hc
      · rcases List.mem_cons.mp hc with rfl | hc
        · exact hm.2 _ (by simp)
        · exact (ih hm.tail).2 c hc
    · split
      · subst_vars; exact Memory.cons_wf hm.tail hlt
      · refine Memory.cons_wf hm fun c hc => ?_
        rcases List.mem_cons.mp hc with rfl | hc
        · simp only; omega
        · have := hlt c hc; simp only at this; omega

/-- A write inside a storage's size keeps the size. -/
theorem Memory.write_within {m : Memory} {size off : Nat} (hm : m.Within size) (h : off < size) (v : Byte) :
    (m.write off v).Within size := by
  intro c hc
  rcases Memory.mem_write hc with rfl | hc
  · exact h
  · exact hm c hc

/-- The cells of a run of bytes: old ones, or within the run. -/
theorem Memory.mem_cells {bytes : List Byte} {off : Nat} {after : Memory} {cell : Host.Cell}
    (h : cell ∈ Memory.cells off bytes after) :
    (off ≤ cell.1 ∧ cell.1 < off + bytes.length) ∨ cell ∈ after := by
  induction bytes generalizing off with
  | nil => exact .inr h
  | cons v bytes ih =>
    rcases Memory.mem_cons h with rfl | h
    · exact .inl (by simp)
    · rcases ih h with h | h
      · left; simp only [List.length_cons]; omega
      · exact .inr h

theorem Memory.cells_wf {bytes : List Byte} {off : Nat} {after : Memory} (ha : after.Wf)
    (h : ∀ cell ∈ after, off + bytes.length ≤ cell.1) : (Memory.cells off bytes after).Wf := by
  induction bytes generalizing off with
  | nil => exact ha
  | cons v bytes ih =>
    simp only [List.length_cons] at h
    refine Memory.cons_wf (ih fun c hc => ?_) fun c hc => ?_
    · have := h c hc; omega
    · rcases Memory.mem_cells hc with hc | hc
      · omega
      · have := h c hc; omega

theorem Memory.read_cells {bytes : List Byte} {off : Nat} {after : Memory}
    (h : ∀ cell ∈ after, off + bytes.length ≤ cell.1) (off' : Nat) :
    (Memory.cells off bytes after).read off' =
      if off ≤ off' ∧ off' < off + bytes.length then bytes.getD (off' - off) 0 else after.read off' := by
  induction bytes generalizing off with
  | nil => simp [Memory.cells]
  | cons v bytes ih =>
    simp only [List.length_cons] at h
    unfold Memory.cells
    rw [Memory.read_cons, ih fun c hc => by have := h c hc; omega]
    · by_cases h1 : off = off'
      · subst h1; simp
      · simp only [h1, if_false, List.length_cons]
        by_cases h2 : off + 1 ≤ off' ∧ off' < off + 1 + bytes.length
        · rw [if_pos h2, if_pos (by omega), show off' - off = off' - (off + 1) + 1 by omega]
          simp
        · rw [if_neg h2, if_neg (by omega)]
    · intro c hc
      rcases Memory.mem_cells hc with hc | hc
      · omega
      · have := h c hc; omega

theorem Memory.Wf.filter {m : Memory} (hm : m.Wf) (p : Host.Cell → Bool) : Memory.Wf (m.filter p) :=
  ⟨hm.1.filter p, fun c hc => hm.2 c (List.mem_filter.mp hc).1⟩

/-- Storing a run of bytes keeps the canonical form. -/
theorem Memory.writeRange_wf {m : Memory} (hm : m.Wf) (off : Nat) (bytes : List Byte) : (m.writeRange off bytes).Wf := by
  have hc : (Memory.cells off bytes (m.filter (fun cell => decide (off + bytes.length ≤ cell.1)))).Wf :=
    Memory.cells_wf (hm.filter _) fun c hc => by simpa using (List.mem_filter.mp hc).2
  refine ⟨List.pairwise_append.mpr ⟨(hm.filter _).1, hc.1, fun a ha b hb => ?_⟩, fun c h => ?_⟩
  · have h1 : a.1 < off := by simpa using (List.mem_filter.mp ha).2
    rcases Memory.mem_cells hb with hb | hb
    · omega
    · have h2 : off + bytes.length ≤ b.1 := by simpa using (List.mem_filter.mp hb).2
      omega
  · rcases List.mem_append.mp h with h | h
    · exact (hm.filter _).2 c h
    · exact hc.2 c h

/-- Storing a run of bytes inside a storage's size keeps the size. -/
theorem Memory.writeRange_within {m : Memory} {size off : Nat} {bytes : List Byte} (hm : m.Within size)
    (h : off + bytes.length ≤ size) : (m.writeRange off bytes).Within size := by
  intro c hc
  rcases List.mem_append.mp hc with hc | hc
  · exact hm c (List.mem_filter.mp hc).1
  · rcases Memory.mem_cells hc with hc | hc
    · omega
    · exact hm c (List.mem_filter.mp hc).1

theorem Memory.read_append_filter {m : Memory} {off off' : Nat} (n : Memory) :
    Memory.read (m.filter (fun cell => decide (cell.1 < off)) ++ n) off' =
      if off' < off ∧ (∃ v, (off', v) ∈ m) then m.read off' else n.read off' := by
  induction m with
  | nil => simp
  | cons c m ih =>
    obtain ⟨k, w⟩ := c
    by_cases hk : k < off
    · rw [List.filter_cons_of_pos (by simpa using hk), List.cons_append, Memory.read_cons_cell, Memory.read_cons_cell]
      by_cases h : k = off'
      · subst h; simp [hk]
      · rw [if_neg h, if_neg h, ih]
        have : (off', w) ≠ (k, w) := by simp; omega
        simp [Ne.symm h]
    · rw [List.filter_cons_of_neg (by simpa using hk), ih, Memory.read_cons_cell]
      by_cases h : off' < off
      · have : k ≠ off' := by omega
        simp [h, this, Ne.symm this]
      · simp [h]

theorem Memory.read_eq_zero_of_not_mem {m : Memory} {off : Nat} (h : ¬ ∃ v, (off, v) ∈ m) : m.read off = 0 := by
  induction m with
  | nil => rfl
  | cons c m ih =>
    obtain ⟨k, w⟩ := c
    rw [Memory.read_cons_cell]
    split
    · subst_vars; exact absurd ⟨w, by simp⟩ h
    · exact ih fun ⟨v, hv⟩ => h ⟨v, by simp [hv]⟩

theorem Memory.read_filter_ge {m : Memory} {off off' : Nat} (h : off ≤ off') :
    Memory.read (m.filter (fun cell => decide (off ≤ cell.1))) off' = m.read off' := by
  induction m with
  | nil => rfl
  | cons c m ih =>
    obtain ⟨k, w⟩ := c
    by_cases hk : off ≤ k
    · rw [List.filter_cons_of_pos (by simpa using hk), Memory.read_cons_cell, Memory.read_cons_cell, ih]
    · rw [List.filter_cons_of_neg (by simpa using hk), ih, Memory.read_cons_cell, if_neg (by omega)]

/-- A read after a run of bytes was stored. -/
theorem Memory.read_writeRange (m : Memory) (off : Nat) (bytes : List Byte) (off' : Nat) :
    (m.writeRange off bytes).read off' =
      if off ≤ off' ∧ off' < off + bytes.length then bytes.getD (off' - off) 0 else m.read off' := by
  unfold Memory.writeRange
  rw [Memory.read_append_filter, Memory.read_cells fun c hc => by simpa using (List.mem_filter.mp hc).2]
  by_cases h1 : off' < off
  · have h2 : ¬ (off ≤ off' ∧ off' < off + bytes.length) := by omega
    rw [if_neg h2, if_neg h2]
    by_cases h3 : ∃ v, (off', v) ∈ m
    · rw [if_pos ⟨h1, h3⟩]
    · rw [if_neg (by simp [h3]), Memory.read_eq_zero_of_not_mem h3]
      refine Memory.read_eq_zero_of_not_mem fun ⟨v, hv⟩ => h3 ⟨v, (List.mem_filter.mp hv).1⟩
  · rw [if_neg (by simp [h1])]
    split
    · rfl
    · exact Memory.read_filter_ge (by omega)

theorem Memory.ofBytes_wf (bytes : List Byte) : (Memory.ofBytes bytes).Wf :=
  Memory.cells_wf ⟨List.Pairwise.nil, by simp⟩ (by simp)

theorem Memory.ofBytes_within (bytes : List Byte) : (Memory.ofBytes bytes).Within bytes.length := by
  intro c hc
  rcases Memory.mem_cells hc with hc | hc
  · omega
  · simp at hc

theorem Memory.read_ofBytes (bytes : List Byte) (off : Nat) : (Memory.ofBytes bytes).read off = bytes.getD off 0 := by
  rw [Memory.ofBytes, Memory.read_cells (by simp)]
  by_cases h : off < bytes.length
  · simp [h]
  · simp [h]

/-- Zeros are not listed. -/
theorem Memory.ofBytes_zeros (n : Nat) : Memory.ofBytes (List.replicate n 0) = [] := by
  have : ∀ off, Memory.cells off (List.replicate n 0) [] = [] := by
    induction n with
    | zero => intro off; rfl
    | succ n ih => intro off; rw [List.replicate_succ, Memory.cells, ih, Memory.cons, if_pos rfl]
  exact this 0

end Sys2Proof.Machine
end

