-- ==== Sys2Proof/Laws/State.lean ====
section
/-! SUPPORT. The small laws of the state's updates: what each field is after each update of the register file, of the cost, and of
PC at an instruction's end, and what the register views read after a register write. -/

namespace Sys2Proof.Machine

/-! ### The record updates, field by field -/

@[simp] theorem State.setA_a (s : State) (v : Byte) : (s.setA v).regs.a = v := rfl
@[simp] theorem State.setA_f (s : State) (v : Byte) : (s.setA v).regs.f = s.regs.f := rfl
@[simp] theorem State.setA_b (s : State) (v : Byte) : (s.setA v).regs.b = s.regs.b := rfl
@[simp] theorem State.setA_c (s : State) (v : Byte) : (s.setA v).regs.c = s.regs.c := rfl
@[simp] theorem State.setA_d (s : State) (v : Byte) : (s.setA v).regs.d = s.regs.d := rfl
@[simp] theorem State.setA_e (s : State) (v : Byte) : (s.setA v).regs.e = s.regs.e := rfl
@[simp] theorem State.setA_h (s : State) (v : Byte) : (s.setA v).regs.h = s.regs.h := rfl
@[simp] theorem State.setA_l (s : State) (v : Byte) : (s.setA v).regs.l = s.regs.l := rfl
@[simp] theorem State.setA_sp (s : State) (v : Byte) : (s.setA v).regs.sp = s.regs.sp := rfl
@[simp] theorem State.setA_pc (s : State) (v : Byte) : (s.setA v).regs.pc = s.regs.pc := rfl
@[simp] theorem State.setA_ime (s : State) (v : Byte) : (s.setA v).ime = s.ime := rfl
@[simp] theorem State.setA_eiDelay (s : State) (v : Byte) : (s.setA v).eiDelay = s.eiDelay := rfl
@[simp] theorem State.setA_halted (s : State) (v : Byte) : (s.setA v).halted = s.halted := rfl
@[simp] theorem State.setA_fatal (s : State) (v : Byte) : (s.setA v).fatal = s.fatal := rfl
@[simp] theorem State.setA_intFlag (s : State) (v : Byte) : (s.setA v).intFlag = s.intFlag := rfl
@[simp] theorem State.setA_intEnable (s : State) (v : Byte) : (s.setA v).intEnable = s.intEnable := rfl
@[simp] theorem State.setA_bootActive (s : State) (v : Byte) : (s.setA v).bootActive = s.bootActive := rfl
@[simp] theorem State.setA_boot (s : State) (v : Byte) : (s.setA v).boot = s.boot := rfl
@[simp] theorem State.setA_cart (s : State) (v : Byte) : (s.setA v).cart = s.cart := rfl
@[simp] theorem State.setA_vram (s : State) (v : Byte) : (s.setA v).vram = s.vram := rfl
@[simp] theorem State.setA_wram (s : State) (v : Byte) : (s.setA v).wram = s.wram := rfl
@[simp] theorem State.setA_oam (s : State) (v : Byte) : (s.setA v).oam = s.oam := rfl
@[simp] theorem State.setA_io (s : State) (v : Byte) : (s.setA v).io = s.io := rfl
@[simp] theorem State.setA_hram (s : State) (v : Byte) : (s.setA v).hram = s.hram := rfl
@[simp] theorem State.setA_timer (s : State) (v : Byte) : (s.setA v).timer = s.timer := rfl
@[simp] theorem State.setA_ppu (s : State) (v : Byte) : (s.setA v).ppu = s.ppu := rfl
@[simp] theorem State.setA_serial (s : State) (v : Byte) : (s.setA v).serial = s.serial := rfl
@[simp] theorem State.setA_joypSel (s : State) (v : Byte) : (s.setA v).joypSel = s.joypSel := rfl
@[simp] theorem State.setA_dma (s : State) (v : Byte) : (s.setA v).dma = s.dma := rfl
@[simp] theorem State.setA_joypInput (s : State) (v : Byte) : (s.setA v).joypInput = s.joypInput := rfl
@[simp] theorem State.setA_joypQueue (s : State) (v : Byte) : (s.setA v).joypQueue = s.joypQueue := rfl
@[simp] theorem State.setA_cycles (s : State) (v : Byte) : (s.setA v).cycles = s.cycles := rfl
@[simp] theorem State.setA_draws (s : State) (v : Byte) : (s.setA v).draws = s.draws := rfl

@[simp] theorem State.setF_a (s : State) (f : Flags) : (s.setF f).regs.a = s.regs.a := rfl
@[simp] theorem State.setF_f (s : State) (f : Flags) : (s.setF f).regs.f = f := rfl
@[simp] theorem State.setF_b (s : State) (f : Flags) : (s.setF f).regs.b = s.regs.b := rfl
@[simp] theorem State.setF_c (s : State) (f : Flags) : (s.setF f).regs.c = s.regs.c := rfl
@[simp] theorem State.setF_d (s : State) (f : Flags) : (s.setF f).regs.d = s.regs.d := rfl
@[simp] theorem State.setF_e (s : State) (f : Flags) : (s.setF f).regs.e = s.regs.e := rfl
@[simp] theorem State.setF_h (s : State) (f : Flags) : (s.setF f).regs.h = s.regs.h := rfl
@[simp] theorem State.setF_l (s : State) (f : Flags) : (s.setF f).regs.l = s.regs.l := rfl
@[simp] theorem State.setF_sp (s : State) (f : Flags) : (s.setF f).regs.sp = s.regs.sp := rfl
@[simp] theorem State.setF_pc (s : State) (f : Flags) : (s.setF f).regs.pc = s.regs.pc := rfl
@[simp] theorem State.setF_ime (s : State) (f : Flags) : (s.setF f).ime = s.ime := rfl
@[simp] theorem State.setF_eiDelay (s : State) (f : Flags) : (s.setF f).eiDelay = s.eiDelay := rfl
@[simp] theorem State.setF_halted (s : State) (f : Flags) : (s.setF f).halted = s.halted := rfl
@[simp] theorem State.setF_fatal (s : State) (f : Flags) : (s.setF f).fatal = s.fatal := rfl
@[simp] theorem State.setF_intFlag (s : State) (f : Flags) : (s.setF f).intFlag = s.intFlag := rfl
@[simp] theorem State.setF_intEnable (s : State) (f : Flags) : (s.setF f).intEnable = s.intEnable := rfl
@[simp] theorem State.setF_bootActive (s : State) (f : Flags) : (s.setF f).bootActive = s.bootActive := rfl
@[simp] theorem State.setF_boot (s : State) (f : Flags) : (s.setF f).boot = s.boot := rfl
@[simp] theorem State.setF_cart (s : State) (f : Flags) : (s.setF f).cart = s.cart := rfl
@[simp] theorem State.setF_vram (s : State) (f : Flags) : (s.setF f).vram = s.vram := rfl
@[simp] theorem State.setF_wram (s : State) (f : Flags) : (s.setF f).wram = s.wram := rfl
@[simp] theorem State.setF_oam (s : State) (f : Flags) : (s.setF f).oam = s.oam := rfl
@[simp] theorem State.setF_io (s : State) (f : Flags) : (s.setF f).io = s.io := rfl
@[simp] theorem State.setF_hram (s : State) (f : Flags) : (s.setF f).hram = s.hram := rfl
@[simp] theorem State.setF_timer (s : State) (f : Flags) : (s.setF f).timer = s.timer := rfl
@[simp] theorem State.setF_ppu (s : State) (f : Flags) : (s.setF f).ppu = s.ppu := rfl
@[simp] theorem State.setF_serial (s : State) (f : Flags) : (s.setF f).serial = s.serial := rfl
@[simp] theorem State.setF_joypSel (s : State) (f : Flags) : (s.setF f).joypSel = s.joypSel := rfl
@[simp] theorem State.setF_dma (s : State) (f : Flags) : (s.setF f).dma = s.dma := rfl
@[simp] theorem State.setF_joypInput (s : State) (f : Flags) : (s.setF f).joypInput = s.joypInput := rfl
@[simp] theorem State.setF_joypQueue (s : State) (f : Flags) : (s.setF f).joypQueue = s.joypQueue := rfl
@[simp] theorem State.setF_cycles (s : State) (f : Flags) : (s.setF f).cycles = s.cycles := rfl
@[simp] theorem State.setF_draws (s : State) (f : Flags) : (s.setF f).draws = s.draws := rfl

@[simp] theorem State.setSp_a (s : State) (v : Word) : (s.setSp v).regs.a = s.regs.a := rfl
@[simp] theorem State.setSp_f (s : State) (v : Word) : (s.setSp v).regs.f = s.regs.f := rfl
@[simp] theorem State.setSp_b (s : State) (v : Word) : (s.setSp v).regs.b = s.regs.b := rfl
@[simp] theorem State.setSp_c (s : State) (v : Word) : (s.setSp v).regs.c = s.regs.c := rfl
@[simp] theorem State.setSp_d (s : State) (v : Word) : (s.setSp v).regs.d = s.regs.d := rfl
@[simp] theorem State.setSp_e (s : State) (v : Word) : (s.setSp v).regs.e = s.regs.e := rfl
@[simp] theorem State.setSp_h (s : State) (v : Word) : (s.setSp v).regs.h = s.regs.h := rfl
@[simp] theorem State.setSp_l (s : State) (v : Word) : (s.setSp v).regs.l = s.regs.l := rfl
@[simp] theorem State.setSp_sp (s : State) (v : Word) : (s.setSp v).regs.sp = v := rfl
@[simp] theorem State.setSp_pc (s : State) (v : Word) : (s.setSp v).regs.pc = s.regs.pc := rfl
@[simp] theorem State.setSp_ime (s : State) (v : Word) : (s.setSp v).ime = s.ime := rfl
@[simp] theorem State.setSp_eiDelay (s : State) (v : Word) : (s.setSp v).eiDelay = s.eiDelay := rfl
@[simp] theorem State.setSp_halted (s : State) (v : Word) : (s.setSp v).halted = s.halted := rfl
@[simp] theorem State.setSp_fatal (s : State) (v : Word) : (s.setSp v).fatal = s.fatal := rfl
@[simp] theorem State.setSp_intFlag (s : State) (v : Word) : (s.setSp v).intFlag = s.intFlag := rfl
@[simp] theorem State.setSp_intEnable (s : State) (v : Word) : (s.setSp v).intEnable = s.intEnable := rfl
@[simp] theorem State.setSp_bootActive (s : State) (v : Word) : (s.setSp v).bootActive = s.bootActive := rfl
@[simp] theorem State.setSp_boot (s : State) (v : Word) : (s.setSp v).boot = s.boot := rfl
@[simp] theorem State.setSp_cart (s : State) (v : Word) : (s.setSp v).cart = s.cart := rfl
@[simp] theorem State.setSp_vram (s : State) (v : Word) : (s.setSp v).vram = s.vram := rfl
@[simp] theorem State.setSp_wram (s : State) (v : Word) : (s.setSp v).wram = s.wram := rfl
@[simp] theorem State.setSp_oam (s : State) (v : Word) : (s.setSp v).oam = s.oam := rfl
@[simp] theorem State.setSp_io (s : State) (v : Word) : (s.setSp v).io = s.io := rfl
@[simp] theorem State.setSp_hram (s : State) (v : Word) : (s.setSp v).hram = s.hram := rfl
@[simp] theorem State.setSp_timer (s : State) (v : Word) : (s.setSp v).timer = s.timer := rfl
@[simp] theorem State.setSp_ppu (s : State) (v : Word) : (s.setSp v).ppu = s.ppu := rfl
@[simp] theorem State.setSp_serial (s : State) (v : Word) : (s.setSp v).serial = s.serial := rfl
@[simp] theorem State.setSp_joypSel (s : State) (v : Word) : (s.setSp v).joypSel = s.joypSel := rfl
@[simp] theorem State.setSp_dma (s : State) (v : Word) : (s.setSp v).dma = s.dma := rfl
@[simp] theorem State.setSp_joypInput (s : State) (v : Word) : (s.setSp v).joypInput = s.joypInput := rfl
@[simp] theorem State.setSp_joypQueue (s : State) (v : Word) : (s.setSp v).joypQueue = s.joypQueue := rfl
@[simp] theorem State.setSp_cycles (s : State) (v : Word) : (s.setSp v).cycles = s.cycles := rfl
@[simp] theorem State.setSp_draws (s : State) (v : Word) : (s.setSp v).draws = s.draws := rfl

@[simp] theorem State.setPc_a (s : State) (v : Word) : (s.setPc v).regs.a = s.regs.a := rfl
@[simp] theorem State.setPc_f (s : State) (v : Word) : (s.setPc v).regs.f = s.regs.f := rfl
@[simp] theorem State.setPc_b (s : State) (v : Word) : (s.setPc v).regs.b = s.regs.b := rfl
@[simp] theorem State.setPc_c (s : State) (v : Word) : (s.setPc v).regs.c = s.regs.c := rfl
@[simp] theorem State.setPc_d (s : State) (v : Word) : (s.setPc v).regs.d = s.regs.d := rfl
@[simp] theorem State.setPc_e (s : State) (v : Word) : (s.setPc v).regs.e = s.regs.e := rfl
@[simp] theorem State.setPc_h (s : State) (v : Word) : (s.setPc v).regs.h = s.regs.h := rfl
@[simp] theorem State.setPc_l (s : State) (v : Word) : (s.setPc v).regs.l = s.regs.l := rfl
@[simp] theorem State.setPc_sp (s : State) (v : Word) : (s.setPc v).regs.sp = s.regs.sp := rfl
@[simp] theorem State.setPc_pc (s : State) (v : Word) : (s.setPc v).regs.pc = v := rfl
@[simp] theorem State.setPc_ime (s : State) (v : Word) : (s.setPc v).ime = s.ime := rfl
@[simp] theorem State.setPc_eiDelay (s : State) (v : Word) : (s.setPc v).eiDelay = s.eiDelay := rfl
@[simp] theorem State.setPc_halted (s : State) (v : Word) : (s.setPc v).halted = s.halted := rfl
@[simp] theorem State.setPc_fatal (s : State) (v : Word) : (s.setPc v).fatal = s.fatal := rfl
@[simp] theorem State.setPc_intFlag (s : State) (v : Word) : (s.setPc v).intFlag = s.intFlag := rfl
@[simp] theorem State.setPc_intEnable (s : State) (v : Word) : (s.setPc v).intEnable = s.intEnable := rfl
@[simp] theorem State.setPc_bootActive (s : State) (v : Word) : (s.setPc v).bootActive = s.bootActive := rfl
@[simp] theorem State.setPc_boot (s : State) (v : Word) : (s.setPc v).boot = s.boot := rfl
@[simp] theorem State.setPc_cart (s : State) (v : Word) : (s.setPc v).cart = s.cart := rfl
@[simp] theorem State.setPc_vram (s : State) (v : Word) : (s.setPc v).vram = s.vram := rfl
@[simp] theorem State.setPc_wram (s : State) (v : Word) : (s.setPc v).wram = s.wram := rfl
@[simp] theorem State.setPc_oam (s : State) (v : Word) : (s.setPc v).oam = s.oam := rfl
@[simp] theorem State.setPc_io (s : State) (v : Word) : (s.setPc v).io = s.io := rfl
@[simp] theorem State.setPc_hram (s : State) (v : Word) : (s.setPc v).hram = s.hram := rfl
@[simp] theorem State.setPc_timer (s : State) (v : Word) : (s.setPc v).timer = s.timer := rfl
@[simp] theorem State.setPc_ppu (s : State) (v : Word) : (s.setPc v).ppu = s.ppu := rfl
@[simp] theorem State.setPc_serial (s : State) (v : Word) : (s.setPc v).serial = s.serial := rfl
@[simp] theorem State.setPc_joypSel (s : State) (v : Word) : (s.setPc v).joypSel = s.joypSel := rfl
@[simp] theorem State.setPc_dma (s : State) (v : Word) : (s.setPc v).dma = s.dma := rfl
@[simp] theorem State.setPc_joypInput (s : State) (v : Word) : (s.setPc v).joypInput = s.joypInput := rfl
@[simp] theorem State.setPc_joypQueue (s : State) (v : Word) : (s.setPc v).joypQueue = s.joypQueue := rfl
@[simp] theorem State.setPc_cycles (s : State) (v : Word) : (s.setPc v).cycles = s.cycles := rfl
@[simp] theorem State.setPc_draws (s : State) (v : Word) : (s.setPc v).draws = s.draws := rfl

@[simp] theorem State.setAf_a (s : State) (v : Word) : (s.setAf v).regs.a = hiByte v := rfl
@[simp] theorem State.setAf_f (s : State) (v : Word) : (s.setAf v).regs.f = Flags.ofByte (loByte v) := rfl
@[simp] theorem State.setAf_b (s : State) (v : Word) : (s.setAf v).regs.b = s.regs.b := rfl
@[simp] theorem State.setAf_c (s : State) (v : Word) : (s.setAf v).regs.c = s.regs.c := rfl
@[simp] theorem State.setAf_d (s : State) (v : Word) : (s.setAf v).regs.d = s.regs.d := rfl
@[simp] theorem State.setAf_e (s : State) (v : Word) : (s.setAf v).regs.e = s.regs.e := rfl
@[simp] theorem State.setAf_h (s : State) (v : Word) : (s.setAf v).regs.h = s.regs.h := rfl
@[simp] theorem State.setAf_l (s : State) (v : Word) : (s.setAf v).regs.l = s.regs.l := rfl
@[simp] theorem State.setAf_sp (s : State) (v : Word) : (s.setAf v).regs.sp = s.regs.sp := rfl
@[simp] theorem State.setAf_pc (s : State) (v : Word) : (s.setAf v).regs.pc = s.regs.pc := rfl
@[simp] theorem State.setAf_ime (s : State) (v : Word) : (s.setAf v).ime = s.ime := rfl
@[simp] theorem State.setAf_eiDelay (s : State) (v : Word) : (s.setAf v).eiDelay = s.eiDelay := rfl
@[simp] theorem State.setAf_halted (s : State) (v : Word) : (s.setAf v).halted = s.halted := rfl
@[simp] theorem State.setAf_fatal (s : State) (v : Word) : (s.setAf v).fatal = s.fatal := rfl
@[simp] theorem State.setAf_intFlag (s : State) (v : Word) : (s.setAf v).intFlag = s.intFlag := rfl
@[simp] theorem State.setAf_intEnable (s : State) (v : Word) : (s.setAf v).intEnable = s.intEnable := rfl
@[simp] theorem State.setAf_bootActive (s : State) (v : Word) : (s.setAf v).bootActive = s.bootActive := rfl
@[simp] theorem State.setAf_boot (s : State) (v : Word) : (s.setAf v).boot = s.boot := rfl
@[simp] theorem State.setAf_cart (s : State) (v : Word) : (s.setAf v).cart = s.cart := rfl
@[simp] theorem State.setAf_vram (s : State) (v : Word) : (s.setAf v).vram = s.vram := rfl
@[simp] theorem State.setAf_wram (s : State) (v : Word) : (s.setAf v).wram = s.wram := rfl
@[simp] theorem State.setAf_oam (s : State) (v : Word) : (s.setAf v).oam = s.oam := rfl
@[simp] theorem State.setAf_io (s : State) (v : Word) : (s.setAf v).io = s.io := rfl
@[simp] theorem State.setAf_hram (s : State) (v : Word) : (s.setAf v).hram = s.hram := rfl
@[simp] theorem State.setAf_timer (s : State) (v : Word) : (s.setAf v).timer = s.timer := rfl
@[simp] theorem State.setAf_ppu (s : State) (v : Word) : (s.setAf v).ppu = s.ppu := rfl
@[simp] theorem State.setAf_serial (s : State) (v : Word) : (s.setAf v).serial = s.serial := rfl
@[simp] theorem State.setAf_joypSel (s : State) (v : Word) : (s.setAf v).joypSel = s.joypSel := rfl
@[simp] theorem State.setAf_dma (s : State) (v : Word) : (s.setAf v).dma = s.dma := rfl
@[simp] theorem State.setAf_joypInput (s : State) (v : Word) : (s.setAf v).joypInput = s.joypInput := rfl
@[simp] theorem State.setAf_joypQueue (s : State) (v : Word) : (s.setAf v).joypQueue = s.joypQueue := rfl
@[simp] theorem State.setAf_cycles (s : State) (v : Word) : (s.setAf v).cycles = s.cycles := rfl
@[simp] theorem State.setAf_draws (s : State) (v : Word) : (s.setAf v).draws = s.draws := rfl

@[simp] theorem State.setBc_a (s : State) (v : Word) : (s.setBc v).regs.a = s.regs.a := rfl
@[simp] theorem State.setBc_f (s : State) (v : Word) : (s.setBc v).regs.f = s.regs.f := rfl
@[simp] theorem State.setBc_b (s : State) (v : Word) : (s.setBc v).regs.b = hiByte v := rfl
@[simp] theorem State.setBc_c (s : State) (v : Word) : (s.setBc v).regs.c = loByte v := rfl
@[simp] theorem State.setBc_d (s : State) (v : Word) : (s.setBc v).regs.d = s.regs.d := rfl
@[simp] theorem State.setBc_e (s : State) (v : Word) : (s.setBc v).regs.e = s.regs.e := rfl
@[simp] theorem State.setBc_h (s : State) (v : Word) : (s.setBc v).regs.h = s.regs.h := rfl
@[simp] theorem State.setBc_l (s : State) (v : Word) : (s.setBc v).regs.l = s.regs.l := rfl
@[simp] theorem State.setBc_sp (s : State) (v : Word) : (s.setBc v).regs.sp = s.regs.sp := rfl
@[simp] theorem State.setBc_pc (s : State) (v : Word) : (s.setBc v).regs.pc = s.regs.pc := rfl
@[simp] theorem State.setBc_ime (s : State) (v : Word) : (s.setBc v).ime = s.ime := rfl
@[simp] theorem State.setBc_eiDelay (s : State) (v : Word) : (s.setBc v).eiDelay = s.eiDelay := rfl
@[simp] theorem State.setBc_halted (s : State) (v : Word) : (s.setBc v).halted = s.halted := rfl
@[simp] theorem State.setBc_fatal (s : State) (v : Word) : (s.setBc v).fatal = s.fatal := rfl
@[simp] theorem State.setBc_intFlag (s : State) (v : Word) : (s.setBc v).intFlag = s.intFlag := rfl
@[simp] theorem State.setBc_intEnable (s : State) (v : Word) : (s.setBc v).intEnable = s.intEnable := rfl
@[simp] theorem State.setBc_bootActive (s : State) (v : Word) : (s.setBc v).bootActive = s.bootActive := rfl
@[simp] theorem State.setBc_boot (s : State) (v : Word) : (s.setBc v).boot = s.boot := rfl
@[simp] theorem State.setBc_cart (s : State) (v : Word) : (s.setBc v).cart = s.cart := rfl
@[simp] theorem State.setBc_vram (s : State) (v : Word) : (s.setBc v).vram = s.vram := rfl
@[simp] theorem State.setBc_wram (s : State) (v : Word) : (s.setBc v).wram = s.wram := rfl
@[simp] theorem State.setBc_oam (s : State) (v : Word) : (s.setBc v).oam = s.oam := rfl
@[simp] theorem State.setBc_io (s : State) (v : Word) : (s.setBc v).io = s.io := rfl
@[simp] theorem State.setBc_hram (s : State) (v : Word) : (s.setBc v).hram = s.hram := rfl
@[simp] theorem State.setBc_timer (s : State) (v : Word) : (s.setBc v).timer = s.timer := rfl
@[simp] theorem State.setBc_ppu (s : State) (v : Word) : (s.setBc v).ppu = s.ppu := rfl
@[simp] theorem State.setBc_serial (s : State) (v : Word) : (s.setBc v).serial = s.serial := rfl
@[simp] theorem State.setBc_joypSel (s : State) (v : Word) : (s.setBc v).joypSel = s.joypSel := rfl
@[simp] theorem State.setBc_dma (s : State) (v : Word) : (s.setBc v).dma = s.dma := rfl
@[simp] theorem State.setBc_joypInput (s : State) (v : Word) : (s.setBc v).joypInput = s.joypInput := rfl
@[simp] theorem State.setBc_joypQueue (s : State) (v : Word) : (s.setBc v).joypQueue = s.joypQueue := rfl
@[simp] theorem State.setBc_cycles (s : State) (v : Word) : (s.setBc v).cycles = s.cycles := rfl
@[simp] theorem State.setBc_draws (s : State) (v : Word) : (s.setBc v).draws = s.draws := rfl

@[simp] theorem State.setDe_a (s : State) (v : Word) : (s.setDe v).regs.a = s.regs.a := rfl
@[simp] theorem State.setDe_f (s : State) (v : Word) : (s.setDe v).regs.f = s.regs.f := rfl
@[simp] theorem State.setDe_b (s : State) (v : Word) : (s.setDe v).regs.b = s.regs.b := rfl
@[simp] theorem State.setDe_c (s : State) (v : Word) : (s.setDe v).regs.c = s.regs.c := rfl
@[simp] theorem State.setDe_d (s : State) (v : Word) : (s.setDe v).regs.d = hiByte v := rfl
@[simp] theorem State.setDe_e (s : State) (v : Word) : (s.setDe v).regs.e = loByte v := rfl
@[simp] theorem State.setDe_h (s : State) (v : Word) : (s.setDe v).regs.h = s.regs.h := rfl
@[simp] theorem State.setDe_l (s : State) (v : Word) : (s.setDe v).regs.l = s.regs.l := rfl
@[simp] theorem State.setDe_sp (s : State) (v : Word) : (s.setDe v).regs.sp = s.regs.sp := rfl
@[simp] theorem State.setDe_pc (s : State) (v : Word) : (s.setDe v).regs.pc = s.regs.pc := rfl
@[simp] theorem State.setDe_ime (s : State) (v : Word) : (s.setDe v).ime = s.ime := rfl
@[simp] theorem State.setDe_eiDelay (s : State) (v : Word) : (s.setDe v).eiDelay = s.eiDelay := rfl
@[simp] theorem State.setDe_halted (s : State) (v : Word) : (s.setDe v).halted = s.halted := rfl
@[simp] theorem State.setDe_fatal (s : State) (v : Word) : (s.setDe v).fatal = s.fatal := rfl
@[simp] theorem State.setDe_intFlag (s : State) (v : Word) : (s.setDe v).intFlag = s.intFlag := rfl
@[simp] theorem State.setDe_intEnable (s : State) (v : Word) : (s.setDe v).intEnable = s.intEnable := rfl
@[simp] theorem State.setDe_bootActive (s : State) (v : Word) : (s.setDe v).bootActive = s.bootActive := rfl
@[simp] theorem State.setDe_boot (s : State) (v : Word) : (s.setDe v).boot = s.boot := rfl
@[simp] theorem State.setDe_cart (s : State) (v : Word) : (s.setDe v).cart = s.cart := rfl
@[simp] theorem State.setDe_vram (s : State) (v : Word) : (s.setDe v).vram = s.vram := rfl
@[simp] theorem State.setDe_wram (s : State) (v : Word) : (s.setDe v).wram = s.wram := rfl
@[simp] theorem State.setDe_oam (s : State) (v : Word) : (s.setDe v).oam = s.oam := rfl
@[simp] theorem State.setDe_io (s : State) (v : Word) : (s.setDe v).io = s.io := rfl
@[simp] theorem State.setDe_hram (s : State) (v : Word) : (s.setDe v).hram = s.hram := rfl
@[simp] theorem State.setDe_timer (s : State) (v : Word) : (s.setDe v).timer = s.timer := rfl
@[simp] theorem State.setDe_ppu (s : State) (v : Word) : (s.setDe v).ppu = s.ppu := rfl
@[simp] theorem State.setDe_serial (s : State) (v : Word) : (s.setDe v).serial = s.serial := rfl
@[simp] theorem State.setDe_joypSel (s : State) (v : Word) : (s.setDe v).joypSel = s.joypSel := rfl
@[simp] theorem State.setDe_dma (s : State) (v : Word) : (s.setDe v).dma = s.dma := rfl
@[simp] theorem State.setDe_joypInput (s : State) (v : Word) : (s.setDe v).joypInput = s.joypInput := rfl
@[simp] theorem State.setDe_joypQueue (s : State) (v : Word) : (s.setDe v).joypQueue = s.joypQueue := rfl
@[simp] theorem State.setDe_cycles (s : State) (v : Word) : (s.setDe v).cycles = s.cycles := rfl
@[simp] theorem State.setDe_draws (s : State) (v : Word) : (s.setDe v).draws = s.draws := rfl

@[simp] theorem State.setHl_a (s : State) (v : Word) : (s.setHl v).regs.a = s.regs.a := rfl
@[simp] theorem State.setHl_f (s : State) (v : Word) : (s.setHl v).regs.f = s.regs.f := rfl
@[simp] theorem State.setHl_b (s : State) (v : Word) : (s.setHl v).regs.b = s.regs.b := rfl
@[simp] theorem State.setHl_c (s : State) (v : Word) : (s.setHl v).regs.c = s.regs.c := rfl
@[simp] theorem State.setHl_d (s : State) (v : Word) : (s.setHl v).regs.d = s.regs.d := rfl
@[simp] theorem State.setHl_e (s : State) (v : Word) : (s.setHl v).regs.e = s.regs.e := rfl
@[simp] theorem State.setHl_h (s : State) (v : Word) : (s.setHl v).regs.h = hiByte v := rfl
@[simp] theorem State.setHl_l (s : State) (v : Word) : (s.setHl v).regs.l = loByte v := rfl
@[simp] theorem State.setHl_sp (s : State) (v : Word) : (s.setHl v).regs.sp = s.regs.sp := rfl
@[simp] theorem State.setHl_pc (s : State) (v : Word) : (s.setHl v).regs.pc = s.regs.pc := rfl
@[simp] theorem State.setHl_ime (s : State) (v : Word) : (s.setHl v).ime = s.ime := rfl
@[simp] theorem State.setHl_eiDelay (s : State) (v : Word) : (s.setHl v).eiDelay = s.eiDelay := rfl
@[simp] theorem State.setHl_halted (s : State) (v : Word) : (s.setHl v).halted = s.halted := rfl
@[simp] theorem State.setHl_fatal (s : State) (v : Word) : (s.setHl v).fatal = s.fatal := rfl
@[simp] theorem State.setHl_intFlag (s : State) (v : Word) : (s.setHl v).intFlag = s.intFlag := rfl
@[simp] theorem State.setHl_intEnable (s : State) (v : Word) : (s.setHl v).intEnable = s.intEnable := rfl
@[simp] theorem State.setHl_bootActive (s : State) (v : Word) : (s.setHl v).bootActive = s.bootActive := rfl
@[simp] theorem State.setHl_boot (s : State) (v : Word) : (s.setHl v).boot = s.boot := rfl
@[simp] theorem State.setHl_cart (s : State) (v : Word) : (s.setHl v).cart = s.cart := rfl
@[simp] theorem State.setHl_vram (s : State) (v : Word) : (s.setHl v).vram = s.vram := rfl
@[simp] theorem State.setHl_wram (s : State) (v : Word) : (s.setHl v).wram = s.wram := rfl
@[simp] theorem State.setHl_oam (s : State) (v : Word) : (s.setHl v).oam = s.oam := rfl
@[simp] theorem State.setHl_io (s : State) (v : Word) : (s.setHl v).io = s.io := rfl
@[simp] theorem State.setHl_hram (s : State) (v : Word) : (s.setHl v).hram = s.hram := rfl
@[simp] theorem State.setHl_timer (s : State) (v : Word) : (s.setHl v).timer = s.timer := rfl
@[simp] theorem State.setHl_ppu (s : State) (v : Word) : (s.setHl v).ppu = s.ppu := rfl
@[simp] theorem State.setHl_serial (s : State) (v : Word) : (s.setHl v).serial = s.serial := rfl
@[simp] theorem State.setHl_joypSel (s : State) (v : Word) : (s.setHl v).joypSel = s.joypSel := rfl
@[simp] theorem State.setHl_dma (s : State) (v : Word) : (s.setHl v).dma = s.dma := rfl
@[simp] theorem State.setHl_joypInput (s : State) (v : Word) : (s.setHl v).joypInput = s.joypInput := rfl
@[simp] theorem State.setHl_joypQueue (s : State) (v : Word) : (s.setHl v).joypQueue = s.joypQueue := rfl
@[simp] theorem State.setHl_cycles (s : State) (v : Word) : (s.setHl v).cycles = s.cycles := rfl
@[simp] theorem State.setHl_draws (s : State) (v : Word) : (s.setHl v).draws = s.draws := rfl

@[simp] theorem State.spend_regs (s : State) (n : Nat) : (s.spend n).regs = s.regs := rfl
@[simp] theorem State.spend_ime (s : State) (n : Nat) : (s.spend n).ime = s.ime := rfl
@[simp] theorem State.spend_eiDelay (s : State) (n : Nat) : (s.spend n).eiDelay = s.eiDelay := rfl
@[simp] theorem State.spend_halted (s : State) (n : Nat) : (s.spend n).halted = s.halted := rfl
@[simp] theorem State.spend_fatal (s : State) (n : Nat) : (s.spend n).fatal = s.fatal := rfl
@[simp] theorem State.spend_intFlag (s : State) (n : Nat) : (s.spend n).intFlag = s.intFlag := rfl
@[simp] theorem State.spend_intEnable (s : State) (n : Nat) : (s.spend n).intEnable = s.intEnable := rfl
@[simp] theorem State.spend_bootActive (s : State) (n : Nat) : (s.spend n).bootActive = s.bootActive := rfl
@[simp] theorem State.spend_boot (s : State) (n : Nat) : (s.spend n).boot = s.boot := rfl
@[simp] theorem State.spend_cart (s : State) (n : Nat) : (s.spend n).cart = s.cart := rfl
@[simp] theorem State.spend_vram (s : State) (n : Nat) : (s.spend n).vram = s.vram := rfl
@[simp] theorem State.spend_wram (s : State) (n : Nat) : (s.spend n).wram = s.wram := rfl
@[simp] theorem State.spend_oam (s : State) (n : Nat) : (s.spend n).oam = s.oam := rfl
@[simp] theorem State.spend_io (s : State) (n : Nat) : (s.spend n).io = s.io := rfl
@[simp] theorem State.spend_hram (s : State) (n : Nat) : (s.spend n).hram = s.hram := rfl
@[simp] theorem State.spend_timer (s : State) (n : Nat) : (s.spend n).timer = s.timer := rfl
@[simp] theorem State.spend_ppu (s : State) (n : Nat) : (s.spend n).ppu = s.ppu := rfl
@[simp] theorem State.spend_serial (s : State) (n : Nat) : (s.spend n).serial = s.serial := rfl
@[simp] theorem State.spend_joypSel (s : State) (n : Nat) : (s.spend n).joypSel = s.joypSel := rfl
@[simp] theorem State.spend_dma (s : State) (n : Nat) : (s.spend n).dma = s.dma := rfl
@[simp] theorem State.spend_joypInput (s : State) (n : Nat) : (s.spend n).joypInput = s.joypInput := rfl
@[simp] theorem State.spend_joypQueue (s : State) (n : Nat) : (s.spend n).joypQueue = s.joypQueue := rfl
@[simp] theorem State.spend_cycles (s : State) (n : Nat) : (s.spend n).cycles = n := rfl
@[simp] theorem State.spend_draws (s : State) (n : Nat) : (s.spend n).draws = s.draws := rfl

@[simp] theorem State.retire_a (s : State) (k : Word) (n : Nat) : (s.retire k n).regs.a = s.regs.a := rfl
@[simp] theorem State.retire_f (s : State) (k : Word) (n : Nat) : (s.retire k n).regs.f = s.regs.f := rfl
@[simp] theorem State.retire_b (s : State) (k : Word) (n : Nat) : (s.retire k n).regs.b = s.regs.b := rfl
@[simp] theorem State.retire_c (s : State) (k : Word) (n : Nat) : (s.retire k n).regs.c = s.regs.c := rfl
@[simp] theorem State.retire_d (s : State) (k : Word) (n : Nat) : (s.retire k n).regs.d = s.regs.d := rfl
@[simp] theorem State.retire_e (s : State) (k : Word) (n : Nat) : (s.retire k n).regs.e = s.regs.e := rfl
@[simp] theorem State.retire_h (s : State) (k : Word) (n : Nat) : (s.retire k n).regs.h = s.regs.h := rfl
@[simp] theorem State.retire_l (s : State) (k : Word) (n : Nat) : (s.retire k n).regs.l = s.regs.l := rfl
@[simp] theorem State.retire_sp (s : State) (k : Word) (n : Nat) : (s.retire k n).regs.sp = s.regs.sp := rfl
@[simp] theorem State.retire_pc (s : State) (k : Word) (n : Nat) : (s.retire k n).regs.pc = s.regs.pc + k := rfl
@[simp] theorem State.retire_ime (s : State) (k : Word) (n : Nat) : (s.retire k n).ime = s.ime := rfl
@[simp] theorem State.retire_eiDelay (s : State) (k : Word) (n : Nat) : (s.retire k n).eiDelay = s.eiDelay := rfl
@[simp] theorem State.retire_halted (s : State) (k : Word) (n : Nat) : (s.retire k n).halted = s.halted := rfl
@[simp] theorem State.retire_fatal (s : State) (k : Word) (n : Nat) : (s.retire k n).fatal = s.fatal := rfl
@[simp] theorem State.retire_intFlag (s : State) (k : Word) (n : Nat) : (s.retire k n).intFlag = s.intFlag := rfl
@[simp] theorem State.retire_intEnable (s : State) (k : Word) (n : Nat) : (s.retire k n).intEnable = s.intEnable := rfl
@[simp] theorem State.retire_bootActive (s : State) (k : Word) (n : Nat) : (s.retire k n).bootActive = s.bootActive := rfl
@[simp] theorem State.retire_boot (s : State) (k : Word) (n : Nat) : (s.retire k n).boot = s.boot := rfl
@[simp] theorem State.retire_cart (s : State) (k : Word) (n : Nat) : (s.retire k n).cart = s.cart := rfl
@[simp] theorem State.retire_vram (s : State) (k : Word) (n : Nat) : (s.retire k n).vram = s.vram := rfl
@[simp] theorem State.retire_wram (s : State) (k : Word) (n : Nat) : (s.retire k n).wram = s.wram := rfl
@[simp] theorem State.retire_oam (s : State) (k : Word) (n : Nat) : (s.retire k n).oam = s.oam := rfl
@[simp] theorem State.retire_io (s : State) (k : Word) (n : Nat) : (s.retire k n).io = s.io := rfl
@[simp] theorem State.retire_hram (s : State) (k : Word) (n : Nat) : (s.retire k n).hram = s.hram := rfl
@[simp] theorem State.retire_timer (s : State) (k : Word) (n : Nat) : (s.retire k n).timer = s.timer := rfl
@[simp] theorem State.retire_ppu (s : State) (k : Word) (n : Nat) : (s.retire k n).ppu = s.ppu := rfl
@[simp] theorem State.retire_serial (s : State) (k : Word) (n : Nat) : (s.retire k n).serial = s.serial := rfl
@[simp] theorem State.retire_joypSel (s : State) (k : Word) (n : Nat) : (s.retire k n).joypSel = s.joypSel := rfl
@[simp] theorem State.retire_dma (s : State) (k : Word) (n : Nat) : (s.retire k n).dma = s.dma := rfl
@[simp] theorem State.retire_joypInput (s : State) (k : Word) (n : Nat) : (s.retire k n).joypInput = s.joypInput := rfl
@[simp] theorem State.retire_joypQueue (s : State) (k : Word) (n : Nat) : (s.retire k n).joypQueue = s.joypQueue := rfl
@[simp] theorem State.retire_cycles (s : State) (k : Word) (n : Nat) : (s.retire k n).cycles = n := rfl
@[simp] theorem State.retire_draws (s : State) (k : Word) (n : Nat) : (s.retire k n).draws = s.draws := rfl

@[simp] theorem State.jump_a (s : State) (t : Word) (n : Nat) : (s.jump t n).regs.a = s.regs.a := rfl
@[simp] theorem State.jump_f (s : State) (t : Word) (n : Nat) : (s.jump t n).regs.f = s.regs.f := rfl
@[simp] theorem State.jump_b (s : State) (t : Word) (n : Nat) : (s.jump t n).regs.b = s.regs.b := rfl
@[simp] theorem State.jump_c (s : State) (t : Word) (n : Nat) : (s.jump t n).regs.c = s.regs.c := rfl
@[simp] theorem State.jump_d (s : State) (t : Word) (n : Nat) : (s.jump t n).regs.d = s.regs.d := rfl
@[simp] theorem State.jump_e (s : State) (t : Word) (n : Nat) : (s.jump t n).regs.e = s.regs.e := rfl
@[simp] theorem State.jump_h (s : State) (t : Word) (n : Nat) : (s.jump t n).regs.h = s.regs.h := rfl
@[simp] theorem State.jump_l (s : State) (t : Word) (n : Nat) : (s.jump t n).regs.l = s.regs.l := rfl
@[simp] theorem State.jump_sp (s : State) (t : Word) (n : Nat) : (s.jump t n).regs.sp = s.regs.sp := rfl
@[simp] theorem State.jump_pc (s : State) (t : Word) (n : Nat) : (s.jump t n).regs.pc = t := rfl
@[simp] theorem State.jump_ime (s : State) (t : Word) (n : Nat) : (s.jump t n).ime = s.ime := rfl
@[simp] theorem State.jump_eiDelay (s : State) (t : Word) (n : Nat) : (s.jump t n).eiDelay = s.eiDelay := rfl
@[simp] theorem State.jump_halted (s : State) (t : Word) (n : Nat) : (s.jump t n).halted = s.halted := rfl
@[simp] theorem State.jump_fatal (s : State) (t : Word) (n : Nat) : (s.jump t n).fatal = s.fatal := rfl
@[simp] theorem State.jump_intFlag (s : State) (t : Word) (n : Nat) : (s.jump t n).intFlag = s.intFlag := rfl
@[simp] theorem State.jump_intEnable (s : State) (t : Word) (n : Nat) : (s.jump t n).intEnable = s.intEnable := rfl
@[simp] theorem State.jump_bootActive (s : State) (t : Word) (n : Nat) : (s.jump t n).bootActive = s.bootActive := rfl
@[simp] theorem State.jump_boot (s : State) (t : Word) (n : Nat) : (s.jump t n).boot = s.boot := rfl
@[simp] theorem State.jump_cart (s : State) (t : Word) (n : Nat) : (s.jump t n).cart = s.cart := rfl
@[simp] theorem State.jump_vram (s : State) (t : Word) (n : Nat) : (s.jump t n).vram = s.vram := rfl
@[simp] theorem State.jump_wram (s : State) (t : Word) (n : Nat) : (s.jump t n).wram = s.wram := rfl
@[simp] theorem State.jump_oam (s : State) (t : Word) (n : Nat) : (s.jump t n).oam = s.oam := rfl
@[simp] theorem State.jump_io (s : State) (t : Word) (n : Nat) : (s.jump t n).io = s.io := rfl
@[simp] theorem State.jump_hram (s : State) (t : Word) (n : Nat) : (s.jump t n).hram = s.hram := rfl
@[simp] theorem State.jump_timer (s : State) (t : Word) (n : Nat) : (s.jump t n).timer = s.timer := rfl
@[simp] theorem State.jump_ppu (s : State) (t : Word) (n : Nat) : (s.jump t n).ppu = s.ppu := rfl
@[simp] theorem State.jump_serial (s : State) (t : Word) (n : Nat) : (s.jump t n).serial = s.serial := rfl
@[simp] theorem State.jump_joypSel (s : State) (t : Word) (n : Nat) : (s.jump t n).joypSel = s.joypSel := rfl
@[simp] theorem State.jump_dma (s : State) (t : Word) (n : Nat) : (s.jump t n).dma = s.dma := rfl
@[simp] theorem State.jump_joypInput (s : State) (t : Word) (n : Nat) : (s.jump t n).joypInput = s.joypInput := rfl
@[simp] theorem State.jump_joypQueue (s : State) (t : Word) (n : Nat) : (s.jump t n).joypQueue = s.joypQueue := rfl
@[simp] theorem State.jump_cycles (s : State) (t : Word) (n : Nat) : (s.jump t n).cycles = n := rfl
@[simp] theorem State.jump_draws (s : State) (t : Word) (n : Nat) : (s.jump t n).draws = s.draws := rfl

/-! ### The writes through a selector -/

@[simp] theorem State.setReg8_f (s : State) (r : Reg8) (v : Byte) : (s.setReg8 r v).regs.f = s.regs.f := by cases r <;> rfl
@[simp] theorem State.setReg8_sp (s : State) (r : Reg8) (v : Byte) : (s.setReg8 r v).regs.sp = s.regs.sp := by cases r <;> rfl
@[simp] theorem State.setReg8_pc (s : State) (r : Reg8) (v : Byte) : (s.setReg8 r v).regs.pc = s.regs.pc := by cases r <;> rfl
@[simp] theorem State.setReg8_ime (s : State) (r : Reg8) (v : Byte) : (s.setReg8 r v).ime = s.ime := by cases r <;> rfl
@[simp] theorem State.setReg8_eiDelay (s : State) (r : Reg8) (v : Byte) : (s.setReg8 r v).eiDelay = s.eiDelay := by cases r <;> rfl
@[simp] theorem State.setReg8_halted (s : State) (r : Reg8) (v : Byte) : (s.setReg8 r v).halted = s.halted := by cases r <;> rfl
@[simp] theorem State.setReg8_fatal (s : State) (r : Reg8) (v : Byte) : (s.setReg8 r v).fatal = s.fatal := by cases r <;> rfl
@[simp] theorem State.setReg8_intFlag (s : State) (r : Reg8) (v : Byte) : (s.setReg8 r v).intFlag = s.intFlag := by cases r <;> rfl
@[simp] theorem State.setReg8_intEnable (s : State) (r : Reg8) (v : Byte) : (s.setReg8 r v).intEnable = s.intEnable := by cases r <;> rfl
@[simp] theorem State.setReg8_bootActive (s : State) (r : Reg8) (v : Byte) : (s.setReg8 r v).bootActive = s.bootActive := by cases r <;> rfl
@[simp] theorem State.setReg8_boot (s : State) (r : Reg8) (v : Byte) : (s.setReg8 r v).boot = s.boot := by cases r <;> rfl
@[simp] theorem State.setReg8_cart (s : State) (r : Reg8) (v : Byte) : (s.setReg8 r v).cart = s.cart := by cases r <;> rfl
@[simp] theorem State.setReg8_vram (s : State) (r : Reg8) (v : Byte) : (s.setReg8 r v).vram = s.vram := by cases r <;> rfl
@[simp] theorem State.setReg8_wram (s : State) (r : Reg8) (v : Byte) : (s.setReg8 r v).wram = s.wram := by cases r <;> rfl
@[simp] theorem State.setReg8_oam (s : State) (r : Reg8) (v : Byte) : (s.setReg8 r v).oam = s.oam := by cases r <;> rfl
@[simp] theorem State.setReg8_io (s : State) (r : Reg8) (v : Byte) : (s.setReg8 r v).io = s.io := by cases r <;> rfl
@[simp] theorem State.setReg8_hram (s : State) (r : Reg8) (v : Byte) : (s.setReg8 r v).hram = s.hram := by cases r <;> rfl
@[simp] theorem State.setReg8_timer (s : State) (r : Reg8) (v : Byte) : (s.setReg8 r v).timer = s.timer := by cases r <;> rfl
@[simp] theorem State.setReg8_ppu (s : State) (r : Reg8) (v : Byte) : (s.setReg8 r v).ppu = s.ppu := by cases r <;> rfl
@[simp] theorem State.setReg8_serial (s : State) (r : Reg8) (v : Byte) : (s.setReg8 r v).serial = s.serial := by cases r <;> rfl
@[simp] theorem State.setReg8_joypSel (s : State) (r : Reg8) (v : Byte) : (s.setReg8 r v).joypSel = s.joypSel := by cases r <;> rfl
@[simp] theorem State.setReg8_dma (s : State) (r : Reg8) (v : Byte) : (s.setReg8 r v).dma = s.dma := by cases r <;> rfl
@[simp] theorem State.setReg8_joypInput (s : State) (r : Reg8) (v : Byte) : (s.setReg8 r v).joypInput = s.joypInput := by cases r <;> rfl
@[simp] theorem State.setReg8_joypQueue (s : State) (r : Reg8) (v : Byte) : (s.setReg8 r v).joypQueue = s.joypQueue := by cases r <;> rfl
@[simp] theorem State.setReg8_cycles (s : State) (r : Reg8) (v : Byte) : (s.setReg8 r v).cycles = s.cycles := by cases r <;> rfl
@[simp] theorem State.setReg8_draws (s : State) (r : Reg8) (v : Byte) : (s.setReg8 r v).draws = s.draws := by cases r <;> rfl

@[simp] theorem State.setReg16_a (s : State) (r : Reg16) (v : Word) : (s.setReg16 r v).regs.a = s.regs.a := by cases r <;> rfl
@[simp] theorem State.setReg16_f (s : State) (r : Reg16) (v : Word) : (s.setReg16 r v).regs.f = s.regs.f := by cases r <;> rfl
@[simp] theorem State.setReg16_pc (s : State) (r : Reg16) (v : Word) : (s.setReg16 r v).regs.pc = s.regs.pc := by cases r <;> rfl
@[simp] theorem State.setReg16_ime (s : State) (r : Reg16) (v : Word) : (s.setReg16 r v).ime = s.ime := by cases r <;> rfl
@[simp] theorem State.setReg16_eiDelay (s : State) (r : Reg16) (v : Word) : (s.setReg16 r v).eiDelay = s.eiDelay := by cases r <;> rfl
@[simp] theorem State.setReg16_halted (s : State) (r : Reg16) (v : Word) : (s.setReg16 r v).halted = s.halted := by cases r <;> rfl
@[simp] theorem State.setReg16_fatal (s : State) (r : Reg16) (v : Word) : (s.setReg16 r v).fatal = s.fatal := by cases r <;> rfl
@[simp] theorem State.setReg16_intFlag (s : State) (r : Reg16) (v : Word) : (s.setReg16 r v).intFlag = s.intFlag := by cases r <;> rfl
@[simp] theorem State.setReg16_intEnable (s : State) (r : Reg16) (v : Word) : (s.setReg16 r v).intEnable = s.intEnable := by cases r <;> rfl
@[simp] theorem State.setReg16_bootActive (s : State) (r : Reg16) (v : Word) : (s.setReg16 r v).bootActive = s.bootActive := by cases r <;> rfl
@[simp] theorem State.setReg16_boot (s : State) (r : Reg16) (v : Word) : (s.setReg16 r v).boot = s.boot := by cases r <;> rfl
@[simp] theorem State.setReg16_cart (s : State) (r : Reg16) (v : Word) : (s.setReg16 r v).cart = s.cart := by cases r <;> rfl
@[simp] theorem State.setReg16_vram (s : State) (r : Reg16) (v : Word) : (s.setReg16 r v).vram = s.vram := by cases r <;> rfl
@[simp] theorem State.setReg16_wram (s : State) (r : Reg16) (v : Word) : (s.setReg16 r v).wram = s.wram := by cases r <;> rfl
@[simp] theorem State.setReg16_oam (s : State) (r : Reg16) (v : Word) : (s.setReg16 r v).oam = s.oam := by cases r <;> rfl
@[simp] theorem State.setReg16_io (s : State) (r : Reg16) (v : Word) : (s.setReg16 r v).io = s.io := by cases r <;> rfl
@[simp] theorem State.setReg16_hram (s : State) (r : Reg16) (v : Word) : (s.setReg16 r v).hram = s.hram := by cases r <;> rfl
@[simp] theorem State.setReg16_timer (s : State) (r : Reg16) (v : Word) : (s.setReg16 r v).timer = s.timer := by cases r <;> rfl
@[simp] theorem State.setReg16_ppu (s : State) (r : Reg16) (v : Word) : (s.setReg16 r v).ppu = s.ppu := by cases r <;> rfl
@[simp] theorem State.setReg16_serial (s : State) (r : Reg16) (v : Word) : (s.setReg16 r v).serial = s.serial := by cases r <;> rfl
@[simp] theorem State.setReg16_joypSel (s : State) (r : Reg16) (v : Word) : (s.setReg16 r v).joypSel = s.joypSel := by cases r <;> rfl
@[simp] theorem State.setReg16_dma (s : State) (r : Reg16) (v : Word) : (s.setReg16 r v).dma = s.dma := by cases r <;> rfl
@[simp] theorem State.setReg16_joypInput (s : State) (r : Reg16) (v : Word) : (s.setReg16 r v).joypInput = s.joypInput := by cases r <;> rfl
@[simp] theorem State.setReg16_joypQueue (s : State) (r : Reg16) (v : Word) : (s.setReg16 r v).joypQueue = s.joypQueue := by cases r <;> rfl
@[simp] theorem State.setReg16_cycles (s : State) (r : Reg16) (v : Word) : (s.setReg16 r v).cycles = s.cycles := by cases r <;> rfl
@[simp] theorem State.setReg16_draws (s : State) (r : Reg16) (v : Word) : (s.setReg16 r v).draws = s.draws := by cases r <;> rfl

@[simp] theorem State.setStackReg_sp (s : State) (r : StackReg) (v : Word) : (s.setStackReg r v).regs.sp = s.regs.sp := by cases r <;> rfl
@[simp] theorem State.setStackReg_pc (s : State) (r : StackReg) (v : Word) : (s.setStackReg r v).regs.pc = s.regs.pc := by cases r <;> rfl
@[simp] theorem State.setStackReg_ime (s : State) (r : StackReg) (v : Word) : (s.setStackReg r v).ime = s.ime := by cases r <;> rfl
@[simp] theorem State.setStackReg_eiDelay (s : State) (r : StackReg) (v : Word) : (s.setStackReg r v).eiDelay = s.eiDelay := by cases r <;> rfl
@[simp] theorem State.setStackReg_halted (s : State) (r : StackReg) (v : Word) : (s.setStackReg r v).halted = s.halted := by cases r <;> rfl
@[simp] theorem State.setStackReg_fatal (s : State) (r : StackReg) (v : Word) : (s.setStackReg r v).fatal = s.fatal := by cases r <;> rfl
@[simp] theorem State.setStackReg_intFlag (s : State) (r : StackReg) (v : Word) : (s.setStackReg r v).intFlag = s.intFlag := by cases r <;> rfl
@[simp] theorem State.setStackReg_intEnable (s : State) (r : StackReg) (v : Word) : (s.setStackReg r v).intEnable = s.intEnable := by cases r <;> rfl
@[simp] theorem State.setStackReg_bootActive (s : State) (r : StackReg) (v : Word) : (s.setStackReg r v).bootActive = s.bootActive := by cases r <;> rfl
@[simp] theorem State.setStackReg_boot (s : State) (r : StackReg) (v : Word) : (s.setStackReg r v).boot = s.boot := by cases r <;> rfl
@[simp] theorem State.setStackReg_cart (s : State) (r : StackReg) (v : Word) : (s.setStackReg r v).cart = s.cart := by cases r <;> rfl
@[simp] theorem State.setStackReg_vram (s : State) (r : StackReg) (v : Word) : (s.setStackReg r v).vram = s.vram := by cases r <;> rfl
@[simp] theorem State.setStackReg_wram (s : State) (r : StackReg) (v : Word) : (s.setStackReg r v).wram = s.wram := by cases r <;> rfl
@[simp] theorem State.setStackReg_oam (s : State) (r : StackReg) (v : Word) : (s.setStackReg r v).oam = s.oam := by cases r <;> rfl
@[simp] theorem State.setStackReg_io (s : State) (r : StackReg) (v : Word) : (s.setStackReg r v).io = s.io := by cases r <;> rfl
@[simp] theorem State.setStackReg_hram (s : State) (r : StackReg) (v : Word) : (s.setStackReg r v).hram = s.hram := by cases r <;> rfl
@[simp] theorem State.setStackReg_timer (s : State) (r : StackReg) (v : Word) : (s.setStackReg r v).timer = s.timer := by cases r <;> rfl
@[simp] theorem State.setStackReg_ppu (s : State) (r : StackReg) (v : Word) : (s.setStackReg r v).ppu = s.ppu := by cases r <;> rfl
@[simp] theorem State.setStackReg_serial (s : State) (r : StackReg) (v : Word) : (s.setStackReg r v).serial = s.serial := by cases r <;> rfl
@[simp] theorem State.setStackReg_joypSel (s : State) (r : StackReg) (v : Word) : (s.setStackReg r v).joypSel = s.joypSel := by cases r <;> rfl
@[simp] theorem State.setStackReg_dma (s : State) (r : StackReg) (v : Word) : (s.setStackReg r v).dma = s.dma := by cases r <;> rfl
@[simp] theorem State.setStackReg_joypInput (s : State) (r : StackReg) (v : Word) : (s.setStackReg r v).joypInput = s.joypInput := by cases r <;> rfl
@[simp] theorem State.setStackReg_joypQueue (s : State) (r : StackReg) (v : Word) : (s.setStackReg r v).joypQueue = s.joypQueue := by cases r <;> rfl
@[simp] theorem State.setStackReg_cycles (s : State) (r : StackReg) (v : Word) : (s.setStackReg r v).cycles = s.cycles := by cases r <;> rfl
@[simp] theorem State.setStackReg_draws (s : State) (r : StackReg) (v : Word) : (s.setStackReg r v).draws = s.draws := by cases r <;> rfl

/-! ### Words and register views -/

@[simp] theorem hiByte_mkWord (hi lo : Byte) : hiByte (mkWord hi lo) = hi := by
  unfold hiByte mkWord
  refine BitVec.eq_of_getLsbD_eq fun i h => ?_
  rw [BitVec.getLsbD_extractLsb', BitVec.getLsbD_append]
  simp [h]

@[simp] theorem loByte_mkWord (hi lo : Byte) : loByte (mkWord hi lo) = lo := by
  unfold loByte mkWord
  refine BitVec.eq_of_getLsbD_eq fun i h => ?_
  rw [BitVec.getLsbD_extractLsb', BitVec.getLsbD_append]
  simp [h]

@[simp] theorem mkWord_hiByte_loByte (v : Word) : mkWord (hiByte v) (loByte v) = v := by
  simp only [hiByte, loByte, mkWord]
  refine BitVec.eq_of_getLsbD_eq fun i hi => ?_
  simp only [BitVec.getLsbD_append, BitVec.getLsbD_extractLsb']
  by_cases h : i < 8
  · simp [h]
  · simp only [h, if_false, show i - 8 < 8 by omega, decide_true, Bool.true_and]
    congr 1; omega

@[simp] theorem Flags.ofByte_toByte (f : Flags) : Flags.ofByte f.toByte = f := by
  obtain ⟨z, n, h, c⟩ := f
  cases z <;> cases n <;> cases h <;> cases c <;> rfl

/-- Reading a register after writing one (R124). -/
theorem State.reg8_setReg8 (s : State) (r r' : Reg8) (v : Byte) :
    (s.setReg8 r v).reg8 r' = if r' = r then v else s.reg8 r' := by
  cases r <;> cases r' <;> rfl

@[simp] theorem State.reg8_setReg8_same (s : State) (r : Reg8) (v : Byte) : (s.setReg8 r v).reg8 r = v := by
  cases r <;> rfl

/-- Reading a 16-bit register after writing it (R22, R125). -/
@[simp] theorem State.reg16_setReg16_same (s : State) (r : Reg16) (v : Word) : (s.setReg16 r v).reg16 r = v := by
  cases r <;> simp [State.setReg16, State.reg16, State.bc, State.de, State.hl]

/-- Writing a register through its own value changes nothing. -/
@[simp] theorem State.setReg8_reg8 (s : State) (r : Reg8) : s.setReg8 r (s.reg8 r) = s := by
  cases r <;> rfl

end Sys2Proof.Machine
end

