-- ==== Sys2Proof/Laws/Ops.lean ====
section
/-! SUPPORT. What the shared memory operations can do: a read changes nothing but the draw count; a write never touches the register
file, the interrupt and execution-control state, the ROM image, the boot program or the pipeline's position; a push and a pop move
SP by two. -/

namespace Sys2Proof.Machine

/-! ### Reads -/

/-- A read is a draw or changes nothing at all (R66). -/
theorem State.afterRead_cases (s : State) (a : Word) :
    s.afterRead a = s ∨ s.afterRead a = { s with draws := s.draws + 1 } := by
  unfold State.afterRead
  split
  · exact .inr rfl
  · exact .inl rfl

/-- A read that is no draw changes nothing (R66). -/
theorem State.afterRead_of_no_draw {s : State} {a : Word} (h : s.drawsAt (regionOf a) = false) : s.afterRead a = s := by
  simp [State.afterRead, h]

@[simp] theorem State.afterRead_regs (s : State) (a : Word) : (s.afterRead a).regs = s.regs := by
  rcases s.afterRead_cases a with h | h <;> rw [h]
@[simp] theorem State.afterRead_ime (s : State) (a : Word) : (s.afterRead a).ime = s.ime := by
  rcases s.afterRead_cases a with h | h <;> rw [h]
@[simp] theorem State.afterRead_eiDelay (s : State) (a : Word) : (s.afterRead a).eiDelay = s.eiDelay := by
  rcases s.afterRead_cases a with h | h <;> rw [h]
@[simp] theorem State.afterRead_halted (s : State) (a : Word) : (s.afterRead a).halted = s.halted := by
  rcases s.afterRead_cases a with h | h <;> rw [h]
@[simp] theorem State.afterRead_fatal (s : State) (a : Word) : (s.afterRead a).fatal = s.fatal := by
  rcases s.afterRead_cases a with h | h <;> rw [h]
@[simp] theorem State.afterRead_intFlag (s : State) (a : Word) : (s.afterRead a).intFlag = s.intFlag := by
  rcases s.afterRead_cases a with h | h <;> rw [h]
@[simp] theorem State.afterRead_intEnable (s : State) (a : Word) : (s.afterRead a).intEnable = s.intEnable := by
  rcases s.afterRead_cases a with h | h <;> rw [h]
@[simp] theorem State.afterRead_bootActive (s : State) (a : Word) : (s.afterRead a).bootActive = s.bootActive := by
  rcases s.afterRead_cases a with h | h <;> rw [h]
@[simp] theorem State.afterRead_boot (s : State) (a : Word) : (s.afterRead a).boot = s.boot := by
  rcases s.afterRead_cases a with h | h <;> rw [h]
@[simp] theorem State.afterRead_cart (s : State) (a : Word) : (s.afterRead a).cart = s.cart := by
  rcases s.afterRead_cases a with h | h <;> rw [h]
@[simp] theorem State.afterRead_vram (s : State) (a : Word) : (s.afterRead a).vram = s.vram := by
  rcases s.afterRead_cases a with h | h <;> rw [h]
@[simp] theorem State.afterRead_wram (s : State) (a : Word) : (s.afterRead a).wram = s.wram := by
  rcases s.afterRead_cases a with h | h <;> rw [h]
@[simp] theorem State.afterRead_oam (s : State) (a : Word) : (s.afterRead a).oam = s.oam := by
  rcases s.afterRead_cases a with h | h <;> rw [h]
@[simp] theorem State.afterRead_io (s : State) (a : Word) : (s.afterRead a).io = s.io := by
  rcases s.afterRead_cases a with h | h <;> rw [h]
@[simp] theorem State.afterRead_hram (s : State) (a : Word) : (s.afterRead a).hram = s.hram := by
  rcases s.afterRead_cases a with h | h <;> rw [h]
@[simp] theorem State.afterRead_timer (s : State) (a : Word) : (s.afterRead a).timer = s.timer := by
  rcases s.afterRead_cases a with h | h <;> rw [h]
@[simp] theorem State.afterRead_ppu (s : State) (a : Word) : (s.afterRead a).ppu = s.ppu := by
  rcases s.afterRead_cases a with h | h <;> rw [h]
@[simp] theorem State.afterRead_serial (s : State) (a : Word) : (s.afterRead a).serial = s.serial := by
  rcases s.afterRead_cases a with h | h <;> rw [h]
@[simp] theorem State.afterRead_joypSel (s : State) (a : Word) : (s.afterRead a).joypSel = s.joypSel := by
  rcases s.afterRead_cases a with h | h <;> rw [h]
@[simp] theorem State.afterRead_dma (s : State) (a : Word) : (s.afterRead a).dma = s.dma := by
  rcases s.afterRead_cases a with h | h <;> rw [h]
@[simp] theorem State.afterRead_joypInput (s : State) (a : Word) : (s.afterRead a).joypInput = s.joypInput := by
  rcases s.afterRead_cases a with h | h <;> rw [h]
@[simp] theorem State.afterRead_joypQueue (s : State) (a : Word) : (s.afterRead a).joypQueue = s.joypQueue := by
  rcases s.afterRead_cases a with h | h <;> rw [h]
@[simp] theorem State.afterRead_cycles (s : State) (a : Word) : (s.afterRead a).cycles = s.cycles := by
  rcases s.afterRead_cases a with h | h <;> rw [h]

@[simp] theorem State.afterRead_drawsAt (s : State) (a : Word) (r : Region) : (s.afterRead a).drawsAt r = s.drawsAt r := by
  cases r <;> simp [State.drawsAt]

/-! ### OAM DMA (R96) -/

@[simp] theorem State.dmaCopy_regs (n : Nat) (src : Word) (off : Nat) (s : State) :
    (State.dmaCopy n src off s).regs = s.regs := by
  induction n generalizing src off s with
  | zero => rfl
  | succ n ih => simp [State.dmaCopy, ih]
@[simp] theorem State.dmaCopy_ime (n : Nat) (src : Word) (off : Nat) (s : State) :
    (State.dmaCopy n src off s).ime = s.ime := by
  induction n generalizing src off s with
  | zero => rfl
  | succ n ih => simp [State.dmaCopy, ih]
@[simp] theorem State.dmaCopy_eiDelay (n : Nat) (src : Word) (off : Nat) (s : State) :
    (State.dmaCopy n src off s).eiDelay = s.eiDelay := by
  induction n generalizing src off s with
  | zero => rfl
  | succ n ih => simp [State.dmaCopy, ih]
@[simp] theorem State.dmaCopy_halted (n : Nat) (src : Word) (off : Nat) (s : State) :
    (State.dmaCopy n src off s).halted = s.halted := by
  induction n generalizing src off s with
  | zero => rfl
  | succ n ih => simp [State.dmaCopy, ih]
@[simp] theorem State.dmaCopy_fatal (n : Nat) (src : Word) (off : Nat) (s : State) :
    (State.dmaCopy n src off s).fatal = s.fatal := by
  induction n generalizing src off s with
  | zero => rfl
  | succ n ih => simp [State.dmaCopy, ih]
@[simp] theorem State.dmaCopy_intFlag (n : Nat) (src : Word) (off : Nat) (s : State) :
    (State.dmaCopy n src off s).intFlag = s.intFlag := by
  induction n generalizing src off s with
  | zero => rfl
  | succ n ih => simp [State.dmaCopy, ih]
@[simp] theorem State.dmaCopy_intEnable (n : Nat) (src : Word) (off : Nat) (s : State) :
    (State.dmaCopy n src off s).intEnable = s.intEnable := by
  induction n generalizing src off s with
  | zero => rfl
  | succ n ih => simp [State.dmaCopy, ih]
@[simp] theorem State.dmaCopy_bootActive (n : Nat) (src : Word) (off : Nat) (s : State) :
    (State.dmaCopy n src off s).bootActive = s.bootActive := by
  induction n generalizing src off s with
  | zero => rfl
  | succ n ih => simp [State.dmaCopy, ih]
@[simp] theorem State.dmaCopy_boot (n : Nat) (src : Word) (off : Nat) (s : State) :
    (State.dmaCopy n src off s).boot = s.boot := by
  induction n generalizing src off s with
  | zero => rfl
  | succ n ih => simp [State.dmaCopy, ih]
@[simp] theorem State.dmaCopy_cart (n : Nat) (src : Word) (off : Nat) (s : State) :
    (State.dmaCopy n src off s).cart = s.cart := by
  induction n generalizing src off s with
  | zero => rfl
  | succ n ih => simp [State.dmaCopy, ih]
@[simp] theorem State.dmaCopy_vram (n : Nat) (src : Word) (off : Nat) (s : State) :
    (State.dmaCopy n src off s).vram = s.vram := by
  induction n generalizing src off s with
  | zero => rfl
  | succ n ih => simp [State.dmaCopy, ih]
@[simp] theorem State.dmaCopy_wram (n : Nat) (src : Word) (off : Nat) (s : State) :
    (State.dmaCopy n src off s).wram = s.wram := by
  induction n generalizing src off s with
  | zero => rfl
  | succ n ih => simp [State.dmaCopy, ih]
@[simp] theorem State.dmaCopy_io (n : Nat) (src : Word) (off : Nat) (s : State) :
    (State.dmaCopy n src off s).io = s.io := by
  induction n generalizing src off s with
  | zero => rfl
  | succ n ih => simp [State.dmaCopy, ih]
@[simp] theorem State.dmaCopy_hram (n : Nat) (src : Word) (off : Nat) (s : State) :
    (State.dmaCopy n src off s).hram = s.hram := by
  induction n generalizing src off s with
  | zero => rfl
  | succ n ih => simp [State.dmaCopy, ih]
@[simp] theorem State.dmaCopy_timer (n : Nat) (src : Word) (off : Nat) (s : State) :
    (State.dmaCopy n src off s).timer = s.timer := by
  induction n generalizing src off s with
  | zero => rfl
  | succ n ih => simp [State.dmaCopy, ih]
@[simp] theorem State.dmaCopy_ppu (n : Nat) (src : Word) (off : Nat) (s : State) :
    (State.dmaCopy n src off s).ppu = s.ppu := by
  induction n generalizing src off s with
  | zero => rfl
  | succ n ih => simp [State.dmaCopy, ih]
@[simp] theorem State.dmaCopy_serial (n : Nat) (src : Word) (off : Nat) (s : State) :
    (State.dmaCopy n src off s).serial = s.serial := by
  induction n generalizing src off s with
  | zero => rfl
  | succ n ih => simp [State.dmaCopy, ih]
@[simp] theorem State.dmaCopy_joypSel (n : Nat) (src : Word) (off : Nat) (s : State) :
    (State.dmaCopy n src off s).joypSel = s.joypSel := by
  induction n generalizing src off s with
  | zero => rfl
  | succ n ih => simp [State.dmaCopy, ih]
@[simp] theorem State.dmaCopy_dma (n : Nat) (src : Word) (off : Nat) (s : State) :
    (State.dmaCopy n src off s).dma = s.dma := by
  induction n generalizing src off s with
  | zero => rfl
  | succ n ih => simp [State.dmaCopy, ih]
@[simp] theorem State.dmaCopy_joypInput (n : Nat) (src : Word) (off : Nat) (s : State) :
    (State.dmaCopy n src off s).joypInput = s.joypInput := by
  induction n generalizing src off s with
  | zero => rfl
  | succ n ih => simp [State.dmaCopy, ih]
@[simp] theorem State.dmaCopy_joypQueue (n : Nat) (src : Word) (off : Nat) (s : State) :
    (State.dmaCopy n src off s).joypQueue = s.joypQueue := by
  induction n generalizing src off s with
  | zero => rfl
  | succ n ih => simp [State.dmaCopy, ih]
@[simp] theorem State.dmaCopy_cycles (n : Nat) (src : Word) (off : Nat) (s : State) :
    (State.dmaCopy n src off s).cycles = s.cycles := by
  induction n generalizing src off s with
  | zero => rfl
  | succ n ih => simp [State.dmaCopy, ih]

/-! ### Writes (R61) -/

@[simp] theorem State.writeIo_regs (s : State) (v : Byte) (r : IoReg) : (s.writeIo v r).regs = s.regs := by
  cases r <;> simp only [State.writeIo, State.dmaCopy_regs]
  split <;> rfl
@[simp] theorem State.writeIo_ime (s : State) (v : Byte) (r : IoReg) : (s.writeIo v r).ime = s.ime := by
  cases r <;> simp only [State.writeIo, State.dmaCopy_ime]
  split <;> rfl
@[simp] theorem State.writeIo_eiDelay (s : State) (v : Byte) (r : IoReg) : (s.writeIo v r).eiDelay = s.eiDelay := by
  cases r <;> simp only [State.writeIo, State.dmaCopy_eiDelay]
  split <;> rfl
@[simp] theorem State.writeIo_halted (s : State) (v : Byte) (r : IoReg) : (s.writeIo v r).halted = s.halted := by
  cases r <;> simp only [State.writeIo, State.dmaCopy_halted]
  split <;> rfl
@[simp] theorem State.writeIo_fatal (s : State) (v : Byte) (r : IoReg) : (s.writeIo v r).fatal = s.fatal := by
  cases r <;> simp only [State.writeIo, State.dmaCopy_fatal]
  split <;> rfl
@[simp] theorem State.writeIo_bootActive (s : State) (v : Byte) (r : IoReg) : (s.writeIo v r).bootActive = s.bootActive := by
  cases r <;> simp only [State.writeIo, State.dmaCopy_bootActive]
  split <;> rfl
@[simp] theorem State.writeIo_boot (s : State) (v : Byte) (r : IoReg) : (s.writeIo v r).boot = s.boot := by
  cases r <;> simp only [State.writeIo, State.dmaCopy_boot]
  split <;> rfl
@[simp] theorem State.writeIo_cart_rom (s : State) (v : Byte) (r : IoReg) : (s.writeIo v r).cart.rom = s.cart.rom := by
  cases r <;> simp only [State.writeIo, State.dmaCopy_cart]
  split <;> rfl
@[simp] theorem State.writeIo_cart_romBanks (s : State) (v : Byte) (r : IoReg) : (s.writeIo v r).cart.romBanks = s.cart.romBanks := by
  cases r <;> simp only [State.writeIo, State.dmaCopy_cart]
  split <;> rfl
@[simp] theorem State.writeIo_cart_ramSize (s : State) (v : Byte) (r : IoReg) : (s.writeIo v r).cart.ramSize = s.cart.ramSize := by
  cases r <;> simp only [State.writeIo, State.dmaCopy_cart]
  split <;> rfl
@[simp] theorem State.writeIo_cart_ramBanks (s : State) (v : Byte) (r : IoReg) : (s.writeIo v r).cart.ramBanks = s.cart.ramBanks := by
  cases r <;> simp only [State.writeIo, State.dmaCopy_cart]
  split <;> rfl
@[simp] theorem State.writeIo_joypInput (s : State) (v : Byte) (r : IoReg) : (s.writeIo v r).joypInput = s.joypInput := by
  cases r <;> simp only [State.writeIo, State.dmaCopy_joypInput]
  split <;> rfl
@[simp] theorem State.writeIo_joypQueue (s : State) (v : Byte) (r : IoReg) : (s.writeIo v r).joypQueue = s.joypQueue := by
  cases r <;> simp only [State.writeIo, State.dmaCopy_joypQueue]
  split <;> rfl
@[simp] theorem State.writeIo_cycles (s : State) (v : Byte) (r : IoReg) : (s.writeIo v r).cycles = s.cycles := by
  cases r <;> simp only [State.writeIo, State.dmaCopy_cycles]
  split <;> rfl
@[simp] theorem State.writeIo_ppu_mode (s : State) (v : Byte) (r : IoReg) : (s.writeIo v r).ppu.mode = s.ppu.mode := by
  cases r <;> simp only [State.writeIo, State.dmaCopy_ppu]
  split <;> rfl
@[simp] theorem State.writeIo_ppu_ly (s : State) (v : Byte) (r : IoReg) : (s.writeIo v r).ppu.ly = s.ppu.ly := by
  cases r <;> simp only [State.writeIo, State.dmaCopy_ppu]
  split <;> rfl
@[simp] theorem State.writeIo_ppu_clock (s : State) (v : Byte) (r : IoReg) : (s.writeIo v r).ppu.clock = s.ppu.clock := by
  cases r <;> simp only [State.writeIo, State.dmaCopy_ppu]
  split <;> rfl
@[simp] theorem State.writeIo_ppu_lycEq (s : State) (v : Byte) (r : IoReg) : (s.writeIo v r).ppu.lycEq = s.ppu.lycEq := by
  cases r <;> simp only [State.writeIo, State.dmaCopy_ppu]
  split <;> rfl
@[simp] theorem State.writeIo_ppu_off (s : State) (v : Byte) (r : IoReg) : (s.writeIo v r).ppu.off = s.ppu.off := by
  cases r <;> simp only [State.writeIo, State.dmaCopy_ppu]
  split <;> rfl
@[simp] theorem State.writeIo_ppu_framebuffer (s : State) (v : Byte) (r : IoReg) : (s.writeIo v r).ppu.framebuffer = s.ppu.framebuffer := by
  cases r <;> simp only [State.writeIo, State.dmaCopy_ppu]
  split <;> rfl
@[simp] theorem State.writeEram_regs (s : State) (off : Nat) (v : Byte) : (s.writeEram off v).regs = s.regs := by
  unfold State.writeEram; split <;> rfl
@[simp] theorem State.writeEram_ime (s : State) (off : Nat) (v : Byte) : (s.writeEram off v).ime = s.ime := by
  unfold State.writeEram; split <;> rfl
@[simp] theorem State.writeEram_eiDelay (s : State) (off : Nat) (v : Byte) : (s.writeEram off v).eiDelay = s.eiDelay := by
  unfold State.writeEram; split <;> rfl
@[simp] theorem State.writeEram_halted (s : State) (off : Nat) (v : Byte) : (s.writeEram off v).halted = s.halted := by
  unfold State.writeEram; split <;> rfl
@[simp] theorem State.writeEram_fatal (s : State) (off : Nat) (v : Byte) : (s.writeEram off v).fatal = s.fatal := by
  unfold State.writeEram; split <;> rfl
@[simp] theorem State.writeEram_bootActive (s : State) (off : Nat) (v : Byte) : (s.writeEram off v).bootActive = s.bootActive := by
  unfold State.writeEram; split <;> rfl
@[simp] theorem State.writeEram_boot (s : State) (off : Nat) (v : Byte) : (s.writeEram off v).boot = s.boot := by
  unfold State.writeEram; split <;> rfl
@[simp] theorem State.writeEram_cart_rom (s : State) (off : Nat) (v : Byte) : (s.writeEram off v).cart.rom = s.cart.rom := by
  unfold State.writeEram; split <;> rfl
@[simp] theorem State.writeEram_cart_romBanks (s : State) (off : Nat) (v : Byte) : (s.writeEram off v).cart.romBanks = s.cart.romBanks := by
  unfold State.writeEram; split <;> rfl
@[simp] theorem State.writeEram_cart_ramSize (s : State) (off : Nat) (v : Byte) : (s.writeEram off v).cart.ramSize = s.cart.ramSize := by
  unfold State.writeEram; split <;> rfl
@[simp] theorem State.writeEram_cart_ramBanks (s : State) (off : Nat) (v : Byte) : (s.writeEram off v).cart.ramBanks = s.cart.ramBanks := by
  unfold State.writeEram; split <;> rfl
@[simp] theorem State.writeEram_joypInput (s : State) (off : Nat) (v : Byte) : (s.writeEram off v).joypInput = s.joypInput := by
  unfold State.writeEram; split <;> rfl
@[simp] theorem State.writeEram_joypQueue (s : State) (off : Nat) (v : Byte) : (s.writeEram off v).joypQueue = s.joypQueue := by
  unfold State.writeEram; split <;> rfl
@[simp] theorem State.writeEram_cycles (s : State) (off : Nat) (v : Byte) : (s.writeEram off v).cycles = s.cycles := by
  unfold State.writeEram; split <;> rfl
@[simp] theorem State.writeEram_ppu_mode (s : State) (off : Nat) (v : Byte) : (s.writeEram off v).ppu.mode = s.ppu.mode := by
  unfold State.writeEram; split <;> rfl
@[simp] theorem State.writeEram_ppu_ly (s : State) (off : Nat) (v : Byte) : (s.writeEram off v).ppu.ly = s.ppu.ly := by
  unfold State.writeEram; split <;> rfl
@[simp] theorem State.writeEram_ppu_clock (s : State) (off : Nat) (v : Byte) : (s.writeEram off v).ppu.clock = s.ppu.clock := by
  unfold State.writeEram; split <;> rfl
@[simp] theorem State.writeEram_ppu_lycEq (s : State) (off : Nat) (v : Byte) : (s.writeEram off v).ppu.lycEq = s.ppu.lycEq := by
  unfold State.writeEram; split <;> rfl
@[simp] theorem State.writeEram_ppu_off (s : State) (off : Nat) (v : Byte) : (s.writeEram off v).ppu.off = s.ppu.off := by
  unfold State.writeEram; split <;> rfl
@[simp] theorem State.writeEram_ppu_framebuffer (s : State) (off : Nat) (v : Byte) : (s.writeEram off v).ppu.framebuffer = s.ppu.framebuffer := by
  unfold State.writeEram; split <;> rfl
@[simp] theorem State.writeByte_regs (s : State) (a : Word) (v : Byte) : (s.writeByte a v).regs = s.regs := by
  unfold State.writeByte; cases regionOf a <;> simp [State.writeRegion]
@[simp] theorem State.writeByte_ime (s : State) (a : Word) (v : Byte) : (s.writeByte a v).ime = s.ime := by
  unfold State.writeByte; cases regionOf a <;> simp [State.writeRegion]
@[simp] theorem State.writeByte_eiDelay (s : State) (a : Word) (v : Byte) : (s.writeByte a v).eiDelay = s.eiDelay := by
  unfold State.writeByte; cases regionOf a <;> simp [State.writeRegion]
@[simp] theorem State.writeByte_halted (s : State) (a : Word) (v : Byte) : (s.writeByte a v).halted = s.halted := by
  unfold State.writeByte; cases regionOf a <;> simp [State.writeRegion]
@[simp] theorem State.writeByte_fatal (s : State) (a : Word) (v : Byte) : (s.writeByte a v).fatal = s.fatal := by
  unfold State.writeByte; cases regionOf a <;> simp [State.writeRegion]
@[simp] theorem State.writeByte_bootActive (s : State) (a : Word) (v : Byte) : (s.writeByte a v).bootActive = s.bootActive := by
  unfold State.writeByte; cases regionOf a <;> simp [State.writeRegion]
@[simp] theorem State.writeByte_boot (s : State) (a : Word) (v : Byte) : (s.writeByte a v).boot = s.boot := by
  unfold State.writeByte; cases regionOf a <;> simp [State.writeRegion]
@[simp] theorem State.writeByte_cart_rom (s : State) (a : Word) (v : Byte) : (s.writeByte a v).cart.rom = s.cart.rom := by
  unfold State.writeByte; cases regionOf a <;> simp [State.writeRegion]
@[simp] theorem State.writeByte_cart_romBanks (s : State) (a : Word) (v : Byte) : (s.writeByte a v).cart.romBanks = s.cart.romBanks := by
  unfold State.writeByte; cases regionOf a <;> simp [State.writeRegion]
@[simp] theorem State.writeByte_cart_ramSize (s : State) (a : Word) (v : Byte) : (s.writeByte a v).cart.ramSize = s.cart.ramSize := by
  unfold State.writeByte; cases regionOf a <;> simp [State.writeRegion]
@[simp] theorem State.writeByte_cart_ramBanks (s : State) (a : Word) (v : Byte) : (s.writeByte a v).cart.ramBanks = s.cart.ramBanks := by
  unfold State.writeByte; cases regionOf a <;> simp [State.writeRegion]
@[simp] theorem State.writeByte_joypInput (s : State) (a : Word) (v : Byte) : (s.writeByte a v).joypInput = s.joypInput := by
  unfold State.writeByte; cases regionOf a <;> simp [State.writeRegion]
@[simp] theorem State.writeByte_joypQueue (s : State) (a : Word) (v : Byte) : (s.writeByte a v).joypQueue = s.joypQueue := by
  unfold State.writeByte; cases regionOf a <;> simp [State.writeRegion]
@[simp] theorem State.writeByte_cycles (s : State) (a : Word) (v : Byte) : (s.writeByte a v).cycles = s.cycles := by
  unfold State.writeByte; cases regionOf a <;> simp [State.writeRegion]
@[simp] theorem State.writeByte_ppu_mode (s : State) (a : Word) (v : Byte) : (s.writeByte a v).ppu.mode = s.ppu.mode := by
  unfold State.writeByte; cases regionOf a <;> simp [State.writeRegion]
@[simp] theorem State.writeByte_ppu_ly (s : State) (a : Word) (v : Byte) : (s.writeByte a v).ppu.ly = s.ppu.ly := by
  unfold State.writeByte; cases regionOf a <;> simp [State.writeRegion]
@[simp] theorem State.writeByte_ppu_clock (s : State) (a : Word) (v : Byte) : (s.writeByte a v).ppu.clock = s.ppu.clock := by
  unfold State.writeByte; cases regionOf a <;> simp [State.writeRegion]
@[simp] theorem State.writeByte_ppu_lycEq (s : State) (a : Word) (v : Byte) : (s.writeByte a v).ppu.lycEq = s.ppu.lycEq := by
  unfold State.writeByte; cases regionOf a <;> simp [State.writeRegion]
@[simp] theorem State.writeByte_ppu_off (s : State) (a : Word) (v : Byte) : (s.writeByte a v).ppu.off = s.ppu.off := by
  unfold State.writeByte; cases regionOf a <;> simp [State.writeRegion]
@[simp] theorem State.writeByte_ppu_framebuffer (s : State) (a : Word) (v : Byte) : (s.writeByte a v).ppu.framebuffer = s.ppu.framebuffer := by
  unfold State.writeByte; cases regionOf a <;> simp [State.writeRegion]

/-! ### The stack (R173, R174) and dispatch (R362) -/

@[simp] theorem State.push16_ime (s : State) (v : Word) : (s.push16 v).ime = s.ime := by simp [State.push16]
@[simp] theorem State.push16_eiDelay (s : State) (v : Word) : (s.push16 v).eiDelay = s.eiDelay := by simp [State.push16]
@[simp] theorem State.push16_halted (s : State) (v : Word) : (s.push16 v).halted = s.halted := by simp [State.push16]
@[simp] theorem State.push16_fatal (s : State) (v : Word) : (s.push16 v).fatal = s.fatal := by simp [State.push16]
@[simp] theorem State.push16_bootActive (s : State) (v : Word) : (s.push16 v).bootActive = s.bootActive := by simp [State.push16]
@[simp] theorem State.push16_boot (s : State) (v : Word) : (s.push16 v).boot = s.boot := by simp [State.push16]
@[simp] theorem State.push16_cart_rom (s : State) (v : Word) : (s.push16 v).cart.rom = s.cart.rom := by simp [State.push16]
@[simp] theorem State.push16_cart_romBanks (s : State) (v : Word) : (s.push16 v).cart.romBanks = s.cart.romBanks := by simp [State.push16]
@[simp] theorem State.push16_cart_ramSize (s : State) (v : Word) : (s.push16 v).cart.ramSize = s.cart.ramSize := by simp [State.push16]
@[simp] theorem State.push16_cart_ramBanks (s : State) (v : Word) : (s.push16 v).cart.ramBanks = s.cart.ramBanks := by simp [State.push16]
@[simp] theorem State.push16_joypInput (s : State) (v : Word) : (s.push16 v).joypInput = s.joypInput := by simp [State.push16]
@[simp] theorem State.push16_joypQueue (s : State) (v : Word) : (s.push16 v).joypQueue = s.joypQueue := by simp [State.push16]
@[simp] theorem State.push16_cycles (s : State) (v : Word) : (s.push16 v).cycles = s.cycles := by simp [State.push16]
@[simp] theorem State.push16_ppu_mode (s : State) (v : Word) : (s.push16 v).ppu.mode = s.ppu.mode := by simp [State.push16]
@[simp] theorem State.push16_ppu_ly (s : State) (v : Word) : (s.push16 v).ppu.ly = s.ppu.ly := by simp [State.push16]
@[simp] theorem State.push16_ppu_clock (s : State) (v : Word) : (s.push16 v).ppu.clock = s.ppu.clock := by simp [State.push16]
@[simp] theorem State.push16_ppu_lycEq (s : State) (v : Word) : (s.push16 v).ppu.lycEq = s.ppu.lycEq := by simp [State.push16]
@[simp] theorem State.push16_ppu_off (s : State) (v : Word) : (s.push16 v).ppu.off = s.ppu.off := by simp [State.push16]
@[simp] theorem State.push16_ppu_framebuffer (s : State) (v : Word) : (s.push16 v).ppu.framebuffer = s.ppu.framebuffer := by simp [State.push16]
@[simp] theorem State.push16_regs (s : State) (v : Word) : (s.push16 v).regs = { s.regs with sp := s.regs.sp - 2 } := by
  simp [State.push16, State.setSp]
@[simp] theorem State.pop16_ime (s : State) : s.pop16.2.ime = s.ime := by simp [State.pop16, State.readMem]
@[simp] theorem State.pop16_eiDelay (s : State) : s.pop16.2.eiDelay = s.eiDelay := by simp [State.pop16, State.readMem]
@[simp] theorem State.pop16_halted (s : State) : s.pop16.2.halted = s.halted := by simp [State.pop16, State.readMem]
@[simp] theorem State.pop16_fatal (s : State) : s.pop16.2.fatal = s.fatal := by simp [State.pop16, State.readMem]
@[simp] theorem State.pop16_intFlag (s : State) : s.pop16.2.intFlag = s.intFlag := by simp [State.pop16, State.readMem]
@[simp] theorem State.pop16_intEnable (s : State) : s.pop16.2.intEnable = s.intEnable := by simp [State.pop16, State.readMem]
@[simp] theorem State.pop16_bootActive (s : State) : s.pop16.2.bootActive = s.bootActive := by simp [State.pop16, State.readMem]
@[simp] theorem State.pop16_boot (s : State) : s.pop16.2.boot = s.boot := by simp [State.pop16, State.readMem]
@[simp] theorem State.pop16_cart (s : State) : s.pop16.2.cart = s.cart := by simp [State.pop16, State.readMem]
@[simp] theorem State.pop16_vram (s : State) : s.pop16.2.vram = s.vram := by simp [State.pop16, State.readMem]
@[simp] theorem State.pop16_wram (s : State) : s.pop16.2.wram = s.wram := by simp [State.pop16, State.readMem]
@[simp] theorem State.pop16_oam (s : State) : s.pop16.2.oam = s.oam := by simp [State.pop16, State.readMem]
@[simp] theorem State.pop16_io (s : State) : s.pop16.2.io = s.io := by simp [State.pop16, State.readMem]
@[simp] theorem State.pop16_hram (s : State) : s.pop16.2.hram = s.hram := by simp [State.pop16, State.readMem]
@[simp] theorem State.pop16_timer (s : State) : s.pop16.2.timer = s.timer := by simp [State.pop16, State.readMem]
@[simp] theorem State.pop16_ppu (s : State) : s.pop16.2.ppu = s.ppu := by simp [State.pop16, State.readMem]
@[simp] theorem State.pop16_serial (s : State) : s.pop16.2.serial = s.serial := by simp [State.pop16, State.readMem]
@[simp] theorem State.pop16_joypSel (s : State) : s.pop16.2.joypSel = s.joypSel := by simp [State.pop16, State.readMem]
@[simp] theorem State.pop16_dma (s : State) : s.pop16.2.dma = s.dma := by simp [State.pop16, State.readMem]
@[simp] theorem State.pop16_joypInput (s : State) : s.pop16.2.joypInput = s.joypInput := by simp [State.pop16, State.readMem]
@[simp] theorem State.pop16_joypQueue (s : State) : s.pop16.2.joypQueue = s.joypQueue := by simp [State.pop16, State.readMem]
@[simp] theorem State.pop16_cycles (s : State) : s.pop16.2.cycles = s.cycles := by simp [State.pop16, State.readMem]
@[simp] theorem State.pop16_regs (s : State) : s.pop16.2.regs = { s.regs with sp := s.regs.sp + 2 } := by
  simp [State.pop16, State.readMem, State.setSp]

/-- Dispatch changes the register file in SP and PC alone (R362). -/
@[simp] theorem State.dispatch_regs (s : State) (i : Nat) :
    (s.dispatch i).regs = { s.regs with sp := s.regs.sp - 2, pc := vectorOf i } := by
  simp [State.dispatch, State.setPc]

@[simp] theorem State.dispatch_ime (s : State) (i : Nat) : (s.dispatch i).ime = false := rfl
@[simp] theorem State.dispatch_halted (s : State) (i : Nat) : (s.dispatch i).halted = false := rfl
@[simp] theorem State.dispatch_eiDelay (s : State) (i : Nat) : (s.dispatch i).eiDelay = s.eiDelay := by simp [State.dispatch]
@[simp] theorem State.dispatch_fatal (s : State) (i : Nat) : (s.dispatch i).fatal = s.fatal := by simp [State.dispatch]
@[simp] theorem State.dispatch_bootActive (s : State) (i : Nat) : (s.dispatch i).bootActive = s.bootActive := by simp [State.dispatch]
@[simp] theorem State.dispatch_boot (s : State) (i : Nat) : (s.dispatch i).boot = s.boot := by simp [State.dispatch]
@[simp] theorem State.dispatch_cart_rom (s : State) (i : Nat) : (s.dispatch i).cart.rom = s.cart.rom := by simp [State.dispatch]
@[simp] theorem State.dispatch_cart_romBanks (s : State) (i : Nat) : (s.dispatch i).cart.romBanks = s.cart.romBanks := by simp [State.dispatch]
@[simp] theorem State.dispatch_cart_ramSize (s : State) (i : Nat) : (s.dispatch i).cart.ramSize = s.cart.ramSize := by simp [State.dispatch]
@[simp] theorem State.dispatch_cart_ramBanks (s : State) (i : Nat) : (s.dispatch i).cart.ramBanks = s.cart.ramBanks := by simp [State.dispatch]
@[simp] theorem State.dispatch_joypInput (s : State) (i : Nat) : (s.dispatch i).joypInput = s.joypInput := by simp [State.dispatch]
@[simp] theorem State.dispatch_joypQueue (s : State) (i : Nat) : (s.dispatch i).joypQueue = s.joypQueue := by simp [State.dispatch]
@[simp] theorem State.dispatch_cycles (s : State) (i : Nat) : (s.dispatch i).cycles = s.cycles := by simp [State.dispatch]
@[simp] theorem State.dispatch_ppu_mode (s : State) (i : Nat) : (s.dispatch i).ppu.mode = s.ppu.mode := by simp [State.dispatch]
@[simp] theorem State.dispatch_ppu_ly (s : State) (i : Nat) : (s.dispatch i).ppu.ly = s.ppu.ly := by simp [State.dispatch]
@[simp] theorem State.dispatch_ppu_clock (s : State) (i : Nat) : (s.dispatch i).ppu.clock = s.ppu.clock := by simp [State.dispatch]
@[simp] theorem State.dispatch_ppu_lycEq (s : State) (i : Nat) : (s.dispatch i).ppu.lycEq = s.ppu.lycEq := by simp [State.dispatch]
@[simp] theorem State.dispatch_ppu_off (s : State) (i : Nat) : (s.dispatch i).ppu.off = s.ppu.off := by simp [State.dispatch]
@[simp] theorem State.dispatch_ppu_framebuffer (s : State) (i : Nat) : (s.dispatch i).ppu.framebuffer = s.ppu.framebuffer := by simp [State.dispatch]

end Sys2Proof.Machine
end

