-- ==== Sys2Proof/Laws/Devices.lean ====
section
/-! SUPPORT. What the devices can do when they advance: the timer touches its own state and IF alone, the pixel pipeline its position,
the coincidence, the framebuffer and IF alone; and the pixel pipeline's clock ends below the mode's budget. -/

namespace Sys2Proof.Machine

/-! ### The timer (R400) -/

@[simp] theorem State.tickTima_regs (s : State) : s.tickTima.regs = s.regs := by
  unfold State.tickTima; split <;> rfl
@[simp] theorem State.tickTima_ime (s : State) : s.tickTima.ime = s.ime := by
  unfold State.tickTima; split <;> rfl
@[simp] theorem State.tickTima_eiDelay (s : State) : s.tickTima.eiDelay = s.eiDelay := by
  unfold State.tickTima; split <;> rfl
@[simp] theorem State.tickTima_halted (s : State) : s.tickTima.halted = s.halted := by
  unfold State.tickTima; split <;> rfl
@[simp] theorem State.tickTima_fatal (s : State) : s.tickTima.fatal = s.fatal := by
  unfold State.tickTima; split <;> rfl
@[simp] theorem State.tickTima_intEnable (s : State) : s.tickTima.intEnable = s.intEnable := by
  unfold State.tickTima; split <;> rfl
@[simp] theorem State.tickTima_bootActive (s : State) : s.tickTima.bootActive = s.bootActive := by
  unfold State.tickTima; split <;> rfl
@[simp] theorem State.tickTima_boot (s : State) : s.tickTima.boot = s.boot := by
  unfold State.tickTima; split <;> rfl
@[simp] theorem State.tickTima_cart (s : State) : s.tickTima.cart = s.cart := by
  unfold State.tickTima; split <;> rfl
@[simp] theorem State.tickTima_vram (s : State) : s.tickTima.vram = s.vram := by
  unfold State.tickTima; split <;> rfl
@[simp] theorem State.tickTima_wram (s : State) : s.tickTima.wram = s.wram := by
  unfold State.tickTima; split <;> rfl
@[simp] theorem State.tickTima_oam (s : State) : s.tickTima.oam = s.oam := by
  unfold State.tickTima; split <;> rfl
@[simp] theorem State.tickTima_io (s : State) : s.tickTima.io = s.io := by
  unfold State.tickTima; split <;> rfl
@[simp] theorem State.tickTima_hram (s : State) : s.tickTima.hram = s.hram := by
  unfold State.tickTima; split <;> rfl
@[simp] theorem State.tickTima_ppu (s : State) : s.tickTima.ppu = s.ppu := by
  unfold State.tickTima; split <;> rfl
@[simp] theorem State.tickTima_serial (s : State) : s.tickTima.serial = s.serial := by
  unfold State.tickTima; split <;> rfl
@[simp] theorem State.tickTima_joypSel (s : State) : s.tickTima.joypSel = s.joypSel := by
  unfold State.tickTima; split <;> rfl
@[simp] theorem State.tickTima_dma (s : State) : s.tickTima.dma = s.dma := by
  unfold State.tickTima; split <;> rfl
@[simp] theorem State.tickTima_joypInput (s : State) : s.tickTima.joypInput = s.joypInput := by
  unfold State.tickTima; split <;> rfl
@[simp] theorem State.tickTima_joypQueue (s : State) : s.tickTima.joypQueue = s.joypQueue := by
  unfold State.tickTima; split <;> rfl
@[simp] theorem State.tickTima_cycles (s : State) : s.tickTima.cycles = s.cycles := by
  unfold State.tickTima; split <;> rfl
@[simp] theorem State.tickTima_draws (s : State) : s.tickTima.draws = s.draws := by
  unfold State.tickTima; split <;> rfl
@[simp] theorem State.tickTima_timer_div (s : State) : s.tickTima.timer.div = s.timer.div := by
  unfold State.tickTima; split <;> rfl
@[simp] theorem State.tickTima_timer_tma (s : State) : s.tickTima.timer.tma = s.timer.tma := by
  unfold State.tickTima; split <;> rfl
@[simp] theorem State.tickTima_timer_tac (s : State) : s.tickTima.timer.tac = s.timer.tac := by
  unfold State.tickTima; split <;> rfl
@[simp] theorem State.tickTima_timer_divAcc (s : State) : s.tickTima.timer.divAcc = s.timer.divAcc := by
  unfold State.tickTima; split <;> rfl
@[simp] theorem State.tickTima_timer_timaAcc (s : State) : s.tickTima.timer.timaAcc = s.timer.timaAcc := by
  unfold State.tickTima; split <;> rfl
@[simp] theorem State.tickTimas_regs (n : Nat) (s : State) : (State.tickTimas n s).regs = s.regs := by
  induction n generalizing s with
  | zero => rfl
  | succ n ih => simp [State.tickTimas, ih]
@[simp] theorem State.tickTimas_ime (n : Nat) (s : State) : (State.tickTimas n s).ime = s.ime := by
  induction n generalizing s with
  | zero => rfl
  | succ n ih => simp [State.tickTimas, ih]
@[simp] theorem State.tickTimas_eiDelay (n : Nat) (s : State) : (State.tickTimas n s).eiDelay = s.eiDelay := by
  induction n generalizing s with
  | zero => rfl
  | succ n ih => simp [State.tickTimas, ih]
@[simp] theorem State.tickTimas_halted (n : Nat) (s : State) : (State.tickTimas n s).halted = s.halted := by
  induction n generalizing s with
  | zero => rfl
  | succ n ih => simp [State.tickTimas, ih]
@[simp] theorem State.tickTimas_fatal (n : Nat) (s : State) : (State.tickTimas n s).fatal = s.fatal := by
  induction n generalizing s with
  | zero => rfl
  | succ n ih => simp [State.tickTimas, ih]
@[simp] theorem State.tickTimas_intEnable (n : Nat) (s : State) : (State.tickTimas n s).intEnable = s.intEnable := by
  induction n generalizing s with
  | zero => rfl
  | succ n ih => simp [State.tickTimas, ih]
@[simp] theorem State.tickTimas_bootActive (n : Nat) (s : State) : (State.tickTimas n s).bootActive = s.bootActive := by
  induction n generalizing s with
  | zero => rfl
  | succ n ih => simp [State.tickTimas, ih]
@[simp] theorem State.tickTimas_boot (n : Nat) (s : State) : (State.tickTimas n s).boot = s.boot := by
  induction n generalizing s with
  | zero => rfl
  | succ n ih => simp [State.tickTimas, ih]
@[simp] theorem State.tickTimas_cart (n : Nat) (s : State) : (State.tickTimas n s).cart = s.cart := by
  induction n generalizing s with
  | zero => rfl
  | succ n ih => simp [State.tickTimas, ih]
@[simp] theorem State.tickTimas_vram (n : Nat) (s : State) : (State.tickTimas n s).vram = s.vram := by
  induction n generalizing s with
  | zero => rfl
  | succ n ih => simp [State.tickTimas, ih]
@[simp] theorem State.tickTimas_wram (n : Nat) (s : State) : (State.tickTimas n s).wram = s.wram := by
  induction n generalizing s with
  | zero => rfl
  | succ n ih => simp [State.tickTimas, ih]
@[simp] theorem State.tickTimas_oam (n : Nat) (s : State) : (State.tickTimas n s).oam = s.oam := by
  induction n generalizing s with
  | zero => rfl
  | succ n ih => simp [State.tickTimas, ih]
@[simp] theorem State.tickTimas_io (n : Nat) (s : State) : (State.tickTimas n s).io = s.io := by
  induction n generalizing s with
  | zero => rfl
  | succ n ih => simp [State.tickTimas, ih]
@[simp] theorem State.tickTimas_hram (n : Nat) (s : State) : (State.tickTimas n s).hram = s.hram := by
  induction n generalizing s with
  | zero => rfl
  | succ n ih => simp [State.tickTimas, ih]
@[simp] theorem State.tickTimas_ppu (n : Nat) (s : State) : (State.tickTimas n s).ppu = s.ppu := by
  induction n generalizing s with
  | zero => rfl
  | succ n ih => simp [State.tickTimas, ih]
@[simp] theorem State.tickTimas_serial (n : Nat) (s : State) : (State.tickTimas n s).serial = s.serial := by
  induction n generalizing s with
  | zero => rfl
  | succ n ih => simp [State.tickTimas, ih]
@[simp] theorem State.tickTimas_joypSel (n : Nat) (s : State) : (State.tickTimas n s).joypSel = s.joypSel := by
  induction n generalizing s with
  | zero => rfl
  | succ n ih => simp [State.tickTimas, ih]
@[simp] theorem State.tickTimas_dma (n : Nat) (s : State) : (State.tickTimas n s).dma = s.dma := by
  induction n generalizing s with
  | zero => rfl
  | succ n ih => simp [State.tickTimas, ih]
@[simp] theorem State.tickTimas_joypInput (n : Nat) (s : State) : (State.tickTimas n s).joypInput = s.joypInput := by
  induction n generalizing s with
  | zero => rfl
  | succ n ih => simp [State.tickTimas, ih]
@[simp] theorem State.tickTimas_joypQueue (n : Nat) (s : State) : (State.tickTimas n s).joypQueue = s.joypQueue := by
  induction n generalizing s with
  | zero => rfl
  | succ n ih => simp [State.tickTimas, ih]
@[simp] theorem State.tickTimas_cycles (n : Nat) (s : State) : (State.tickTimas n s).cycles = s.cycles := by
  induction n generalizing s with
  | zero => rfl
  | succ n ih => simp [State.tickTimas, ih]
@[simp] theorem State.tickTimas_draws (n : Nat) (s : State) : (State.tickTimas n s).draws = s.draws := by
  induction n generalizing s with
  | zero => rfl
  | succ n ih => simp [State.tickTimas, ih]
@[simp] theorem State.tickTimas_timer_div (n : Nat) (s : State) : (State.tickTimas n s).timer.div = s.timer.div := by
  induction n generalizing s with
  | zero => rfl
  | succ n ih => simp [State.tickTimas, ih]
@[simp] theorem State.tickTimas_timer_tma (n : Nat) (s : State) : (State.tickTimas n s).timer.tma = s.timer.tma := by
  induction n generalizing s with
  | zero => rfl
  | succ n ih => simp [State.tickTimas, ih]
@[simp] theorem State.tickTimas_timer_tac (n : Nat) (s : State) : (State.tickTimas n s).timer.tac = s.timer.tac := by
  induction n generalizing s with
  | zero => rfl
  | succ n ih => simp [State.tickTimas, ih]
@[simp] theorem State.tickTimas_timer_divAcc (n : Nat) (s : State) : (State.tickTimas n s).timer.divAcc = s.timer.divAcc := by
  induction n generalizing s with
  | zero => rfl
  | succ n ih => simp [State.tickTimas, ih]
@[simp] theorem State.tickTimas_timer_timaAcc (n : Nat) (s : State) : (State.tickTimas n s).timer.timaAcc = s.timer.timaAcc := by
  induction n generalizing s with
  | zero => rfl
  | succ n ih => simp [State.tickTimas, ih]
@[simp] theorem State.advanceTimer_regs (s : State) (c : Nat) : (s.advanceTimer c).regs = s.regs := by
  unfold State.advanceTimer State.advanceTima State.advanceDiv; split <;> simp
@[simp] theorem State.advanceTimer_ime (s : State) (c : Nat) : (s.advanceTimer c).ime = s.ime := by
  unfold State.advanceTimer State.advanceTima State.advanceDiv; split <;> simp
@[simp] theorem State.advanceTimer_eiDelay (s : State) (c : Nat) : (s.advanceTimer c).eiDelay = s.eiDelay := by
  unfold State.advanceTimer State.advanceTima State.advanceDiv; split <;> simp
@[simp] theorem State.advanceTimer_halted (s : State) (c : Nat) : (s.advanceTimer c).halted = s.halted := by
  unfold State.advanceTimer State.advanceTima State.advanceDiv; split <;> simp
@[simp] theorem State.advanceTimer_fatal (s : State) (c : Nat) : (s.advanceTimer c).fatal = s.fatal := by
  unfold State.advanceTimer State.advanceTima State.advanceDiv; split <;> simp
@[simp] theorem State.advanceTimer_intEnable (s : State) (c : Nat) : (s.advanceTimer c).intEnable = s.intEnable := by
  unfold State.advanceTimer State.advanceTima State.advanceDiv; split <;> simp
@[simp] theorem State.advanceTimer_bootActive (s : State) (c : Nat) : (s.advanceTimer c).bootActive = s.bootActive := by
  unfold State.advanceTimer State.advanceTima State.advanceDiv; split <;> simp
@[simp] theorem State.advanceTimer_boot (s : State) (c : Nat) : (s.advanceTimer c).boot = s.boot := by
  unfold State.advanceTimer State.advanceTima State.advanceDiv; split <;> simp
@[simp] theorem State.advanceTimer_cart (s : State) (c : Nat) : (s.advanceTimer c).cart = s.cart := by
  unfold State.advanceTimer State.advanceTima State.advanceDiv; split <;> simp
@[simp] theorem State.advanceTimer_vram (s : State) (c : Nat) : (s.advanceTimer c).vram = s.vram := by
  unfold State.advanceTimer State.advanceTima State.advanceDiv; split <;> simp
@[simp] theorem State.advanceTimer_wram (s : State) (c : Nat) : (s.advanceTimer c).wram = s.wram := by
  unfold State.advanceTimer State.advanceTima State.advanceDiv; split <;> simp
@[simp] theorem State.advanceTimer_oam (s : State) (c : Nat) : (s.advanceTimer c).oam = s.oam := by
  unfold State.advanceTimer State.advanceTima State.advanceDiv; split <;> simp
@[simp] theorem State.advanceTimer_io (s : State) (c : Nat) : (s.advanceTimer c).io = s.io := by
  unfold State.advanceTimer State.advanceTima State.advanceDiv; split <;> simp
@[simp] theorem State.advanceTimer_hram (s : State) (c : Nat) : (s.advanceTimer c).hram = s.hram := by
  unfold State.advanceTimer State.advanceTima State.advanceDiv; split <;> simp
@[simp] theorem State.advanceTimer_ppu (s : State) (c : Nat) : (s.advanceTimer c).ppu = s.ppu := by
  unfold State.advanceTimer State.advanceTima State.advanceDiv; split <;> simp
@[simp] theorem State.advanceTimer_serial (s : State) (c : Nat) : (s.advanceTimer c).serial = s.serial := by
  unfold State.advanceTimer State.advanceTima State.advanceDiv; split <;> simp
@[simp] theorem State.advanceTimer_joypSel (s : State) (c : Nat) : (s.advanceTimer c).joypSel = s.joypSel := by
  unfold State.advanceTimer State.advanceTima State.advanceDiv; split <;> simp
@[simp] theorem State.advanceTimer_dma (s : State) (c : Nat) : (s.advanceTimer c).dma = s.dma := by
  unfold State.advanceTimer State.advanceTima State.advanceDiv; split <;> simp
@[simp] theorem State.advanceTimer_joypInput (s : State) (c : Nat) : (s.advanceTimer c).joypInput = s.joypInput := by
  unfold State.advanceTimer State.advanceTima State.advanceDiv; split <;> simp
@[simp] theorem State.advanceTimer_joypQueue (s : State) (c : Nat) : (s.advanceTimer c).joypQueue = s.joypQueue := by
  unfold State.advanceTimer State.advanceTima State.advanceDiv; split <;> simp
@[simp] theorem State.advanceTimer_cycles (s : State) (c : Nat) : (s.advanceTimer c).cycles = s.cycles := by
  unfold State.advanceTimer State.advanceTima State.advanceDiv; split <;> simp
@[simp] theorem State.advanceTimer_draws (s : State) (c : Nat) : (s.advanceTimer c).draws = s.draws := by
  unfold State.advanceTimer State.advanceTima State.advanceDiv; split <;> simp
@[simp] theorem State.advanceTimer_timer_tma (s : State) (c : Nat) : (s.advanceTimer c).timer.tma = s.timer.tma := by
  unfold State.advanceTimer State.advanceTima State.advanceDiv; split <;> simp
@[simp] theorem State.advanceTimer_timer_tac (s : State) (c : Nat) : (s.advanceTimer c).timer.tac = s.timer.tac := by
  unfold State.advanceTimer State.advanceTima State.advanceDiv; split <;> simp

/-- After every advance the divider's accumulator is below its period, and TIMA's while the timer is enabled (R35). -/
theorem State.advanceTimer_ok {s : State} (h : s.timer.timaAcc < 1024) (c : Nat) : (s.advanceTimer c).timer.Ok := by
  have hp : 0 < timerPeriod s.timer.tac ∧ timerPeriod s.timer.tac ≤ 1024 := by
    unfold timerPeriod; split <;> omega
  unfold State.advanceTimer State.advanceTima State.advanceDiv
  split
  · rename_i ht
    refine ⟨?_, ?_, fun _ => ?_⟩
    · simpa using Nat.mod_lt _ (by decide)
    · simpa using Nat.lt_of_lt_of_le (Nat.mod_lt _ hp.1) hp.2
    · simpa using Nat.mod_lt _ hp.1
  · rename_i ht
    exact ⟨Nat.mod_lt _ (by decide), h, fun h' => absurd h' ht⟩

/-! ### The pixel pipeline (R410 to R413) -/

@[simp] theorem State.setMode_regs (s : State) (m : PpuMode) : (s.setMode m).regs = s.regs := rfl
@[simp] theorem State.setMode_ime (s : State) (m : PpuMode) : (s.setMode m).ime = s.ime := rfl
@[simp] theorem State.setMode_eiDelay (s : State) (m : PpuMode) : (s.setMode m).eiDelay = s.eiDelay := rfl
@[simp] theorem State.setMode_halted (s : State) (m : PpuMode) : (s.setMode m).halted = s.halted := rfl
@[simp] theorem State.setMode_fatal (s : State) (m : PpuMode) : (s.setMode m).fatal = s.fatal := rfl
@[simp] theorem State.setMode_intEnable (s : State) (m : PpuMode) : (s.setMode m).intEnable = s.intEnable := rfl
@[simp] theorem State.setMode_bootActive (s : State) (m : PpuMode) : (s.setMode m).bootActive = s.bootActive := rfl
@[simp] theorem State.setMode_boot (s : State) (m : PpuMode) : (s.setMode m).boot = s.boot := rfl
@[simp] theorem State.setMode_cart (s : State) (m : PpuMode) : (s.setMode m).cart = s.cart := rfl
@[simp] theorem State.setMode_vram (s : State) (m : PpuMode) : (s.setMode m).vram = s.vram := rfl
@[simp] theorem State.setMode_wram (s : State) (m : PpuMode) : (s.setMode m).wram = s.wram := rfl
@[simp] theorem State.setMode_oam (s : State) (m : PpuMode) : (s.setMode m).oam = s.oam := rfl
@[simp] theorem State.setMode_io (s : State) (m : PpuMode) : (s.setMode m).io = s.io := rfl
@[simp] theorem State.setMode_hram (s : State) (m : PpuMode) : (s.setMode m).hram = s.hram := rfl
@[simp] theorem State.setMode_timer (s : State) (m : PpuMode) : (s.setMode m).timer = s.timer := rfl
@[simp] theorem State.setMode_serial (s : State) (m : PpuMode) : (s.setMode m).serial = s.serial := rfl
@[simp] theorem State.setMode_joypSel (s : State) (m : PpuMode) : (s.setMode m).joypSel = s.joypSel := rfl
@[simp] theorem State.setMode_dma (s : State) (m : PpuMode) : (s.setMode m).dma = s.dma := rfl
@[simp] theorem State.setMode_joypInput (s : State) (m : PpuMode) : (s.setMode m).joypInput = s.joypInput := rfl
@[simp] theorem State.setMode_joypQueue (s : State) (m : PpuMode) : (s.setMode m).joypQueue = s.joypQueue := rfl
@[simp] theorem State.setMode_cycles (s : State) (m : PpuMode) : (s.setMode m).cycles = s.cycles := rfl
@[simp] theorem State.setMode_draws (s : State) (m : PpuMode) : (s.setMode m).draws = s.draws := rfl
@[simp] theorem State.setMode_ppu_lcdc (s : State) (m : PpuMode) : (s.setMode m).ppu.lcdc = s.ppu.lcdc := rfl
@[simp] theorem State.setMode_ppu_stat (s : State) (m : PpuMode) : (s.setMode m).ppu.stat = s.ppu.stat := rfl
@[simp] theorem State.setMode_ppu_scy (s : State) (m : PpuMode) : (s.setMode m).ppu.scy = s.ppu.scy := rfl
@[simp] theorem State.setMode_ppu_scx (s : State) (m : PpuMode) : (s.setMode m).ppu.scx = s.ppu.scx := rfl
@[simp] theorem State.setMode_ppu_lyc (s : State) (m : PpuMode) : (s.setMode m).ppu.lyc = s.ppu.lyc := rfl
@[simp] theorem State.setMode_ppu_bgp (s : State) (m : PpuMode) : (s.setMode m).ppu.bgp = s.ppu.bgp := rfl
@[simp] theorem State.setMode_ppu_obp0 (s : State) (m : PpuMode) : (s.setMode m).ppu.obp0 = s.ppu.obp0 := rfl
@[simp] theorem State.setMode_ppu_obp1 (s : State) (m : PpuMode) : (s.setMode m).ppu.obp1 = s.ppu.obp1 := rfl
@[simp] theorem State.setMode_ppu_wy (s : State) (m : PpuMode) : (s.setMode m).ppu.wy = s.ppu.wy := rfl
@[simp] theorem State.setMode_ppu_wx (s : State) (m : PpuMode) : (s.setMode m).ppu.wx = s.ppu.wx := rfl
@[simp] theorem State.setMode_ppu_ly (s : State) (m : PpuMode) : (s.setMode m).ppu.ly = s.ppu.ly := rfl
@[simp] theorem State.setMode_ppu_clock (s : State) (m : PpuMode) : (s.setMode m).ppu.clock = s.ppu.clock := rfl
@[simp] theorem State.setMode_ppu_lycEq (s : State) (m : PpuMode) : (s.setMode m).ppu.lycEq = s.ppu.lycEq := rfl
@[simp] theorem State.setMode_ppu_off (s : State) (m : PpuMode) : (s.setMode m).ppu.off = s.ppu.off := rfl
@[simp] theorem State.setMode_ppu_framebuffer (s : State) (m : PpuMode) : (s.setMode m).ppu.framebuffer = s.ppu.framebuffer := rfl
@[simp] theorem State.setLy_regs (s : State) (n : Byte) : (s.setLy n).regs = s.regs := rfl
@[simp] theorem State.setLy_ime (s : State) (n : Byte) : (s.setLy n).ime = s.ime := rfl
@[simp] theorem State.setLy_eiDelay (s : State) (n : Byte) : (s.setLy n).eiDelay = s.eiDelay := rfl
@[simp] theorem State.setLy_halted (s : State) (n : Byte) : (s.setLy n).halted = s.halted := rfl
@[simp] theorem State.setLy_fatal (s : State) (n : Byte) : (s.setLy n).fatal = s.fatal := rfl
@[simp] theorem State.setLy_intEnable (s : State) (n : Byte) : (s.setLy n).intEnable = s.intEnable := rfl
@[simp] theorem State.setLy_bootActive (s : State) (n : Byte) : (s.setLy n).bootActive = s.bootActive := rfl
@[simp] theorem State.setLy_boot (s : State) (n : Byte) : (s.setLy n).boot = s.boot := rfl
@[simp] theorem State.setLy_cart (s : State) (n : Byte) : (s.setLy n).cart = s.cart := rfl
@[simp] theorem State.setLy_vram (s : State) (n : Byte) : (s.setLy n).vram = s.vram := rfl
@[simp] theorem State.setLy_wram (s : State) (n : Byte) : (s.setLy n).wram = s.wram := rfl
@[simp] theorem State.setLy_oam (s : State) (n : Byte) : (s.setLy n).oam = s.oam := rfl
@[simp] theorem State.setLy_io (s : State) (n : Byte) : (s.setLy n).io = s.io := rfl
@[simp] theorem State.setLy_hram (s : State) (n : Byte) : (s.setLy n).hram = s.hram := rfl
@[simp] theorem State.setLy_timer (s : State) (n : Byte) : (s.setLy n).timer = s.timer := rfl
@[simp] theorem State.setLy_serial (s : State) (n : Byte) : (s.setLy n).serial = s.serial := rfl
@[simp] theorem State.setLy_joypSel (s : State) (n : Byte) : (s.setLy n).joypSel = s.joypSel := rfl
@[simp] theorem State.setLy_dma (s : State) (n : Byte) : (s.setLy n).dma = s.dma := rfl
@[simp] theorem State.setLy_joypInput (s : State) (n : Byte) : (s.setLy n).joypInput = s.joypInput := rfl
@[simp] theorem State.setLy_joypQueue (s : State) (n : Byte) : (s.setLy n).joypQueue = s.joypQueue := rfl
@[simp] theorem State.setLy_cycles (s : State) (n : Byte) : (s.setLy n).cycles = s.cycles := rfl
@[simp] theorem State.setLy_draws (s : State) (n : Byte) : (s.setLy n).draws = s.draws := rfl
@[simp] theorem State.setLy_ppu_lcdc (s : State) (n : Byte) : (s.setLy n).ppu.lcdc = s.ppu.lcdc := rfl
@[simp] theorem State.setLy_ppu_stat (s : State) (n : Byte) : (s.setLy n).ppu.stat = s.ppu.stat := rfl
@[simp] theorem State.setLy_ppu_scy (s : State) (n : Byte) : (s.setLy n).ppu.scy = s.ppu.scy := rfl
@[simp] theorem State.setLy_ppu_scx (s : State) (n : Byte) : (s.setLy n).ppu.scx = s.ppu.scx := rfl
@[simp] theorem State.setLy_ppu_lyc (s : State) (n : Byte) : (s.setLy n).ppu.lyc = s.ppu.lyc := rfl
@[simp] theorem State.setLy_ppu_bgp (s : State) (n : Byte) : (s.setLy n).ppu.bgp = s.ppu.bgp := rfl
@[simp] theorem State.setLy_ppu_obp0 (s : State) (n : Byte) : (s.setLy n).ppu.obp0 = s.ppu.obp0 := rfl
@[simp] theorem State.setLy_ppu_obp1 (s : State) (n : Byte) : (s.setLy n).ppu.obp1 = s.ppu.obp1 := rfl
@[simp] theorem State.setLy_ppu_wy (s : State) (n : Byte) : (s.setLy n).ppu.wy = s.ppu.wy := rfl
@[simp] theorem State.setLy_ppu_wx (s : State) (n : Byte) : (s.setLy n).ppu.wx = s.ppu.wx := rfl
@[simp] theorem State.setLy_ppu_mode (s : State) (n : Byte) : (s.setLy n).ppu.mode = s.ppu.mode := rfl
@[simp] theorem State.setLy_ppu_clock (s : State) (n : Byte) : (s.setLy n).ppu.clock = s.ppu.clock := rfl
@[simp] theorem State.setLy_ppu_off (s : State) (n : Byte) : (s.setLy n).ppu.off = s.ppu.off := rfl
@[simp] theorem State.setLy_ppu_framebuffer (s : State) (n : Byte) : (s.setLy n).ppu.framebuffer = s.ppu.framebuffer := rfl
@[simp] theorem State.renderLine_regs (s : State) (ly : Nat) : (s.renderLine ly).regs = s.regs := rfl
@[simp] theorem State.renderLine_ime (s : State) (ly : Nat) : (s.renderLine ly).ime = s.ime := rfl
@[simp] theorem State.renderLine_eiDelay (s : State) (ly : Nat) : (s.renderLine ly).eiDelay = s.eiDelay := rfl
@[simp] theorem State.renderLine_halted (s : State) (ly : Nat) : (s.renderLine ly).halted = s.halted := rfl
@[simp] theorem State.renderLine_fatal (s : State) (ly : Nat) : (s.renderLine ly).fatal = s.fatal := rfl
@[simp] theorem State.renderLine_intEnable (s : State) (ly : Nat) : (s.renderLine ly).intEnable = s.intEnable := rfl
@[simp] theorem State.renderLine_bootActive (s : State) (ly : Nat) : (s.renderLine ly).bootActive = s.bootActive := rfl
@[simp] theorem State.renderLine_boot (s : State) (ly : Nat) : (s.renderLine ly).boot = s.boot := rfl
@[simp] theorem State.renderLine_cart (s : State) (ly : Nat) : (s.renderLine ly).cart = s.cart := rfl
@[simp] theorem State.renderLine_vram (s : State) (ly : Nat) : (s.renderLine ly).vram = s.vram := rfl
@[simp] theorem State.renderLine_wram (s : State) (ly : Nat) : (s.renderLine ly).wram = s.wram := rfl
@[simp] theorem State.renderLine_oam (s : State) (ly : Nat) : (s.renderLine ly).oam = s.oam := rfl
@[simp] theorem State.renderLine_io (s : State) (ly : Nat) : (s.renderLine ly).io = s.io := rfl
@[simp] theorem State.renderLine_hram (s : State) (ly : Nat) : (s.renderLine ly).hram = s.hram := rfl
@[simp] theorem State.renderLine_timer (s : State) (ly : Nat) : (s.renderLine ly).timer = s.timer := rfl
@[simp] theorem State.renderLine_serial (s : State) (ly : Nat) : (s.renderLine ly).serial = s.serial := rfl
@[simp] theorem State.renderLine_joypSel (s : State) (ly : Nat) : (s.renderLine ly).joypSel = s.joypSel := rfl
@[simp] theorem State.renderLine_dma (s : State) (ly : Nat) : (s.renderLine ly).dma = s.dma := rfl
@[simp] theorem State.renderLine_joypInput (s : State) (ly : Nat) : (s.renderLine ly).joypInput = s.joypInput := rfl
@[simp] theorem State.renderLine_joypQueue (s : State) (ly : Nat) : (s.renderLine ly).joypQueue = s.joypQueue := rfl
@[simp] theorem State.renderLine_cycles (s : State) (ly : Nat) : (s.renderLine ly).cycles = s.cycles := rfl
@[simp] theorem State.renderLine_draws (s : State) (ly : Nat) : (s.renderLine ly).draws = s.draws := rfl
@[simp] theorem State.renderLine_ppu_lcdc (s : State) (ly : Nat) : (s.renderLine ly).ppu.lcdc = s.ppu.lcdc := rfl
@[simp] theorem State.renderLine_ppu_stat (s : State) (ly : Nat) : (s.renderLine ly).ppu.stat = s.ppu.stat := rfl
@[simp] theorem State.renderLine_ppu_scy (s : State) (ly : Nat) : (s.renderLine ly).ppu.scy = s.ppu.scy := rfl
@[simp] theorem State.renderLine_ppu_scx (s : State) (ly : Nat) : (s.renderLine ly).ppu.scx = s.ppu.scx := rfl
@[simp] theorem State.renderLine_ppu_lyc (s : State) (ly : Nat) : (s.renderLine ly).ppu.lyc = s.ppu.lyc := rfl
@[simp] theorem State.renderLine_ppu_bgp (s : State) (ly : Nat) : (s.renderLine ly).ppu.bgp = s.ppu.bgp := rfl
@[simp] theorem State.renderLine_ppu_obp0 (s : State) (ly : Nat) : (s.renderLine ly).ppu.obp0 = s.ppu.obp0 := rfl
@[simp] theorem State.renderLine_ppu_obp1 (s : State) (ly : Nat) : (s.renderLine ly).ppu.obp1 = s.ppu.obp1 := rfl
@[simp] theorem State.renderLine_ppu_wy (s : State) (ly : Nat) : (s.renderLine ly).ppu.wy = s.ppu.wy := rfl
@[simp] theorem State.renderLine_ppu_wx (s : State) (ly : Nat) : (s.renderLine ly).ppu.wx = s.ppu.wx := rfl
@[simp] theorem State.renderLine_intFlag (s : State) (ly : Nat) : (s.renderLine ly).intFlag = s.intFlag := rfl
@[simp] theorem State.renderLine_ppu_mode (s : State) (ly : Nat) : (s.renderLine ly).ppu.mode = s.ppu.mode := rfl
@[simp] theorem State.renderLine_ppu_ly (s : State) (ly : Nat) : (s.renderLine ly).ppu.ly = s.ppu.ly := rfl
@[simp] theorem State.renderLine_ppu_clock (s : State) (ly : Nat) : (s.renderLine ly).ppu.clock = s.ppu.clock := rfl
@[simp] theorem State.renderLine_ppu_lycEq (s : State) (ly : Nat) : (s.renderLine ly).ppu.lycEq = s.ppu.lycEq := rfl
@[simp] theorem State.renderLine_ppu_off (s : State) (ly : Nat) : (s.renderLine ly).ppu.off = s.ppu.off := rfl
@[simp] theorem State.setMode_ppu_mode (s : State) (m : PpuMode) : (s.setMode m).ppu.mode = m := rfl
@[simp] theorem State.setLy_ppu_ly (s : State) (n : Byte) : (s.setLy n).ppu.ly = n := rfl

@[simp] theorem State.leaveMode_regs (s : State) : (s.leaveMode).regs = s.regs := by
  unfold State.leaveMode
  cases s.ppu.mode <;> simp only
  all_goals (first | rfl | (split <;> rfl))
@[simp] theorem State.leaveMode_ime (s : State) : (s.leaveMode).ime = s.ime := by
  unfold State.leaveMode
  cases s.ppu.mode <;> simp only
  all_goals (first | rfl | (split <;> rfl))
@[simp] theorem State.leaveMode_eiDelay (s : State) : (s.leaveMode).eiDelay = s.eiDelay := by
  unfold State.leaveMode
  cases s.ppu.mode <;> simp only
  all_goals (first | rfl | (split <;> rfl))
@[simp] theorem State.leaveMode_halted (s : State) : (s.leaveMode).halted = s.halted := by
  unfold State.leaveMode
  cases s.ppu.mode <;> simp only
  all_goals (first | rfl | (split <;> rfl))
@[simp] theorem State.leaveMode_fatal (s : State) : (s.leaveMode).fatal = s.fatal := by
  unfold State.leaveMode
  cases s.ppu.mode <;> simp only
  all_goals (first | rfl | (split <;> rfl))
@[simp] theorem State.leaveMode_intEnable (s : State) : (s.leaveMode).intEnable = s.intEnable := by
  unfold State.leaveMode
  cases s.ppu.mode <;> simp only
  all_goals (first | rfl | (split <;> rfl))
@[simp] theorem State.leaveMode_bootActive (s : State) : (s.leaveMode).bootActive = s.bootActive := by
  unfold State.leaveMode
  cases s.ppu.mode <;> simp only
  all_goals (first | rfl | (split <;> rfl))
@[simp] theorem State.leaveMode_boot (s : State) : (s.leaveMode).boot = s.boot := by
  unfold State.leaveMode
  cases s.ppu.mode <;> simp only
  all_goals (first | rfl | (split <;> rfl))
@[simp] theorem State.leaveMode_cart (s : State) : (s.leaveMode).cart = s.cart := by
  unfold State.leaveMode
  cases s.ppu.mode <;> simp only
  all_goals (first | rfl | (split <;> rfl))
@[simp] theorem State.leaveMode_vram (s : State) : (s.leaveMode).vram = s.vram := by
  unfold State.leaveMode
  cases s.ppu.mode <;> simp only
  all_goals (first | rfl | (split <;> rfl))
@[simp] theorem State.leaveMode_wram (s : State) : (s.leaveMode).wram = s.wram := by
  unfold State.leaveMode
  cases s.ppu.mode <;> simp only
  all_goals (first | rfl | (split <;> rfl))
@[simp] theorem State.leaveMode_oam (s : State) : (s.leaveMode).oam = s.oam := by
  unfold State.leaveMode
  cases s.ppu.mode <;> simp only
  all_goals (first | rfl | (split <;> rfl))
@[simp] theorem State.leaveMode_io (s : State) : (s.leaveMode).io = s.io := by
  unfold State.leaveMode
  cases s.ppu.mode <;> simp only
  all_goals (first | rfl | (split <;> rfl))
@[simp] theorem State.leaveMode_hram (s : State) : (s.leaveMode).hram = s.hram := by
  unfold State.leaveMode
  cases s.ppu.mode <;> simp only
  all_goals (first | rfl | (split <;> rfl))
@[simp] theorem State.leaveMode_timer (s : State) : (s.leaveMode).timer = s.timer := by
  unfold State.leaveMode
  cases s.ppu.mode <;> simp only
  all_goals (first | rfl | (split <;> rfl))
@[simp] theorem State.leaveMode_serial (s : State) : (s.leaveMode).serial = s.serial := by
  unfold State.leaveMode
  cases s.ppu.mode <;> simp only
  all_goals (first | rfl | (split <;> rfl))
@[simp] theorem State.leaveMode_joypSel (s : State) : (s.leaveMode).joypSel = s.joypSel := by
  unfold State.leaveMode
  cases s.ppu.mode <;> simp only
  all_goals (first | rfl | (split <;> rfl))
@[simp] theorem State.leaveMode_dma (s : State) : (s.leaveMode).dma = s.dma := by
  unfold State.leaveMode
  cases s.ppu.mode <;> simp only
  all_goals (first | rfl | (split <;> rfl))
@[simp] theorem State.leaveMode_joypInput (s : State) : (s.leaveMode).joypInput = s.joypInput := by
  unfold State.leaveMode
  cases s.ppu.mode <;> simp only
  all_goals (first | rfl | (split <;> rfl))
@[simp] theorem State.leaveMode_joypQueue (s : State) : (s.leaveMode).joypQueue = s.joypQueue := by
  unfold State.leaveMode
  cases s.ppu.mode <;> simp only
  all_goals (first | rfl | (split <;> rfl))
@[simp] theorem State.leaveMode_cycles (s : State) : (s.leaveMode).cycles = s.cycles := by
  unfold State.leaveMode
  cases s.ppu.mode <;> simp only
  all_goals (first | rfl | (split <;> rfl))
@[simp] theorem State.leaveMode_draws (s : State) : (s.leaveMode).draws = s.draws := by
  unfold State.leaveMode
  cases s.ppu.mode <;> simp only
  all_goals (first | rfl | (split <;> rfl))
@[simp] theorem State.leaveMode_ppu_lcdc (s : State) : (s.leaveMode).ppu.lcdc = s.ppu.lcdc := by
  unfold State.leaveMode
  cases s.ppu.mode <;> simp only
  all_goals (first | rfl | (split <;> rfl))
@[simp] theorem State.leaveMode_ppu_stat (s : State) : (s.leaveMode).ppu.stat = s.ppu.stat := by
  unfold State.leaveMode
  cases s.ppu.mode <;> simp only
  all_goals (first | rfl | (split <;> rfl))
@[simp] theorem State.leaveMode_ppu_scy (s : State) : (s.leaveMode).ppu.scy = s.ppu.scy := by
  unfold State.leaveMode
  cases s.ppu.mode <;> simp only
  all_goals (first | rfl | (split <;> rfl))
@[simp] theorem State.leaveMode_ppu_scx (s : State) : (s.leaveMode).ppu.scx = s.ppu.scx := by
  unfold State.leaveMode
  cases s.ppu.mode <;> simp only
  all_goals (first | rfl | (split <;> rfl))
@[simp] theorem State.leaveMode_ppu_lyc (s : State) : (s.leaveMode).ppu.lyc = s.ppu.lyc := by
  unfold State.leaveMode
  cases s.ppu.mode <;> simp only
  all_goals (first | rfl | (split <;> rfl))
@[simp] theorem State.leaveMode_ppu_bgp (s : State) : (s.leaveMode).ppu.bgp = s.ppu.bgp := by
  unfold State.leaveMode
  cases s.ppu.mode <;> simp only
  all_goals (first | rfl | (split <;> rfl))
@[simp] theorem State.leaveMode_ppu_obp0 (s : State) : (s.leaveMode).ppu.obp0 = s.ppu.obp0 := by
  unfold State.leaveMode
  cases s.ppu.mode <;> simp only
  all_goals (first | rfl | (split <;> rfl))
@[simp] theorem State.leaveMode_ppu_obp1 (s : State) : (s.leaveMode).ppu.obp1 = s.ppu.obp1 := by
  unfold State.leaveMode
  cases s.ppu.mode <;> simp only
  all_goals (first | rfl | (split <;> rfl))
@[simp] theorem State.leaveMode_ppu_wy (s : State) : (s.leaveMode).ppu.wy = s.ppu.wy := by
  unfold State.leaveMode
  cases s.ppu.mode <;> simp only
  all_goals (first | rfl | (split <;> rfl))
@[simp] theorem State.leaveMode_ppu_wx (s : State) : (s.leaveMode).ppu.wx = s.ppu.wx := by
  unfold State.leaveMode
  cases s.ppu.mode <;> simp only
  all_goals (first | rfl | (split <;> rfl))
@[simp] theorem State.leaveMode_ppu_clock (s : State) : (s.leaveMode).ppu.clock = s.ppu.clock := by
  unfold State.leaveMode
  cases s.ppu.mode <;> simp only
  all_goals (first | rfl | (split <;> rfl))
@[simp] theorem State.leaveMode_ppu_off (s : State) : (s.leaveMode).ppu.off = s.ppu.off := by
  unfold State.leaveMode
  cases s.ppu.mode <;> simp only
  all_goals (first | rfl | (split <;> rfl))
@[simp] theorem State.ppuLoop_regs (n : Nat) (s : State) : (State.ppuLoop n s).regs = s.regs := by
  induction n generalizing s with
  | zero => rfl
  | succ n ih => unfold State.ppuLoop; split <;> simp [ih]
@[simp] theorem State.ppuLoop_ime (n : Nat) (s : State) : (State.ppuLoop n s).ime = s.ime := by
  induction n generalizing s with
  | zero => rfl
  | succ n ih => unfold State.ppuLoop; split <;> simp [ih]
@[simp] theorem State.ppuLoop_eiDelay (n : Nat) (s : State) : (State.ppuLoop n s).eiDelay = s.eiDelay := by
  induction n generalizing s with
  | zero => rfl
  | succ n ih => unfold State.ppuLoop; split <;> simp [ih]
@[simp] theorem State.ppuLoop_halted (n : Nat) (s : State) : (State.ppuLoop n s).halted = s.halted := by
  induction n generalizing s with
  | zero => rfl
  | succ n ih => unfold State.ppuLoop; split <;> simp [ih]
@[simp] theorem State.ppuLoop_fatal (n : Nat) (s : State) : (State.ppuLoop n s).fatal = s.fatal := by
  induction n generalizing s with
  | zero => rfl
  | succ n ih => unfold State.ppuLoop; split <;> simp [ih]
@[simp] theorem State.ppuLoop_intEnable (n : Nat) (s : State) : (State.ppuLoop n s).intEnable = s.intEnable := by
  induction n generalizing s with
  | zero => rfl
  | succ n ih => unfold State.ppuLoop; split <;> simp [ih]
@[simp] theorem State.ppuLoop_bootActive (n : Nat) (s : State) : (State.ppuLoop n s).bootActive = s.bootActive := by
  induction n generalizing s with
  | zero => rfl
  | succ n ih => unfold State.ppuLoop; split <;> simp [ih]
@[simp] theorem State.ppuLoop_boot (n : Nat) (s : State) : (State.ppuLoop n s).boot = s.boot := by
  induction n generalizing s with
  | zero => rfl
  | succ n ih => unfold State.ppuLoop; split <;> simp [ih]
@[simp] theorem State.ppuLoop_cart (n : Nat) (s : State) : (State.ppuLoop n s).cart = s.cart := by
  induction n generalizing s with
  | zero => rfl
  | succ n ih => unfold State.ppuLoop; split <;> simp [ih]
@[simp] theorem State.ppuLoop_vram (n : Nat) (s : State) : (State.ppuLoop n s).vram = s.vram := by
  induction n generalizing s with
  | zero => rfl
  | succ n ih => unfold State.ppuLoop; split <;> simp [ih]
@[simp] theorem State.ppuLoop_wram (n : Nat) (s : State) : (State.ppuLoop n s).wram = s.wram := by
  induction n generalizing s with
  | zero => rfl
  | succ n ih => unfold State.ppuLoop; split <;> simp [ih]
@[simp] theorem State.ppuLoop_oam (n : Nat) (s : State) : (State.ppuLoop n s).oam = s.oam := by
  induction n generalizing s with
  | zero => rfl
  | succ n ih => unfold State.ppuLoop; split <;> simp [ih]
@[simp] theorem State.ppuLoop_io (n : Nat) (s : State) : (State.ppuLoop n s).io = s.io := by
  induction n generalizing s with
  | zero => rfl
  | succ n ih => unfold State.ppuLoop; split <;> simp [ih]
@[simp] theorem State.ppuLoop_hram (n : Nat) (s : State) : (State.ppuLoop n s).hram = s.hram := by
  induction n generalizing s with
  | zero => rfl
  | succ n ih => unfold State.ppuLoop; split <;> simp [ih]
@[simp] theorem State.ppuLoop_timer (n : Nat) (s : State) : (State.ppuLoop n s).timer = s.timer := by
  induction n generalizing s with
  | zero => rfl
  | succ n ih => unfold State.ppuLoop; split <;> simp [ih]
@[simp] theorem State.ppuLoop_serial (n : Nat) (s : State) : (State.ppuLoop n s).serial = s.serial := by
  induction n generalizing s with
  | zero => rfl
  | succ n ih => unfold State.ppuLoop; split <;> simp [ih]
@[simp] theorem State.ppuLoop_joypSel (n : Nat) (s : State) : (State.ppuLoop n s).joypSel = s.joypSel := by
  induction n generalizing s with
  | zero => rfl
  | succ n ih => unfold State.ppuLoop; split <;> simp [ih]
@[simp] theorem State.ppuLoop_dma (n : Nat) (s : State) : (State.ppuLoop n s).dma = s.dma := by
  induction n generalizing s with
  | zero => rfl
  | succ n ih => unfold State.ppuLoop; split <;> simp [ih]
@[simp] theorem State.ppuLoop_joypInput (n : Nat) (s : State) : (State.ppuLoop n s).joypInput = s.joypInput := by
  induction n generalizing s with
  | zero => rfl
  | succ n ih => unfold State.ppuLoop; split <;> simp [ih]
@[simp] theorem State.ppuLoop_joypQueue (n : Nat) (s : State) : (State.ppuLoop n s).joypQueue = s.joypQueue := by
  induction n generalizing s with
  | zero => rfl
  | succ n ih => unfold State.ppuLoop; split <;> simp [ih]
@[simp] theorem State.ppuLoop_cycles (n : Nat) (s : State) : (State.ppuLoop n s).cycles = s.cycles := by
  induction n generalizing s with
  | zero => rfl
  | succ n ih => unfold State.ppuLoop; split <;> simp [ih]
@[simp] theorem State.ppuLoop_draws (n : Nat) (s : State) : (State.ppuLoop n s).draws = s.draws := by
  induction n generalizing s with
  | zero => rfl
  | succ n ih => unfold State.ppuLoop; split <;> simp [ih]
@[simp] theorem State.ppuLoop_ppu_lcdc (n : Nat) (s : State) : (State.ppuLoop n s).ppu.lcdc = s.ppu.lcdc := by
  induction n generalizing s with
  | zero => rfl
  | succ n ih => unfold State.ppuLoop; split <;> simp [ih]
@[simp] theorem State.ppuLoop_ppu_stat (n : Nat) (s : State) : (State.ppuLoop n s).ppu.stat = s.ppu.stat := by
  induction n generalizing s with
  | zero => rfl
  | succ n ih => unfold State.ppuLoop; split <;> simp [ih]
@[simp] theorem State.ppuLoop_ppu_scy (n : Nat) (s : State) : (State.ppuLoop n s).ppu.scy = s.ppu.scy := by
  induction n generalizing s with
  | zero => rfl
  | succ n ih => unfold State.ppuLoop; split <;> simp [ih]
@[simp] theorem State.ppuLoop_ppu_scx (n : Nat) (s : State) : (State.ppuLoop n s).ppu.scx = s.ppu.scx := by
  induction n generalizing s with
  | zero => rfl
  | succ n ih => unfold State.ppuLoop; split <;> simp [ih]
@[simp] theorem State.ppuLoop_ppu_lyc (n : Nat) (s : State) : (State.ppuLoop n s).ppu.lyc = s.ppu.lyc := by
  induction n generalizing s with
  | zero => rfl
  | succ n ih => unfold State.ppuLoop; split <;> simp [ih]
@[simp] theorem State.ppuLoop_ppu_bgp (n : Nat) (s : State) : (State.ppuLoop n s).ppu.bgp = s.ppu.bgp := by
  induction n generalizing s with
  | zero => rfl
  | succ n ih => unfold State.ppuLoop; split <;> simp [ih]
@[simp] theorem State.ppuLoop_ppu_obp0 (n : Nat) (s : State) : (State.ppuLoop n s).ppu.obp0 = s.ppu.obp0 := by
  induction n generalizing s with
  | zero => rfl
  | succ n ih => unfold State.ppuLoop; split <;> simp [ih]
@[simp] theorem State.ppuLoop_ppu_obp1 (n : Nat) (s : State) : (State.ppuLoop n s).ppu.obp1 = s.ppu.obp1 := by
  induction n generalizing s with
  | zero => rfl
  | succ n ih => unfold State.ppuLoop; split <;> simp [ih]
@[simp] theorem State.ppuLoop_ppu_wy (n : Nat) (s : State) : (State.ppuLoop n s).ppu.wy = s.ppu.wy := by
  induction n generalizing s with
  | zero => rfl
  | succ n ih => unfold State.ppuLoop; split <;> simp [ih]
@[simp] theorem State.ppuLoop_ppu_wx (n : Nat) (s : State) : (State.ppuLoop n s).ppu.wx = s.ppu.wx := by
  induction n generalizing s with
  | zero => rfl
  | succ n ih => unfold State.ppuLoop; split <;> simp [ih]
@[simp] theorem State.ppuLoop_ppu_off (n : Nat) (s : State) : (State.ppuLoop n s).ppu.off = s.ppu.off := by
  induction n generalizing s with
  | zero => rfl
  | succ n ih => unfold State.ppuLoop; split <;> simp [ih]
@[simp] theorem State.advancePpu_regs (s : State) (c : Nat) : (s.advancePpu c).regs = s.regs := by
  unfold State.advancePpu
  split
  · rfl
  · simp only [State.ppuLoop_regs]; split <;> rfl
@[simp] theorem State.advancePpu_ime (s : State) (c : Nat) : (s.advancePpu c).ime = s.ime := by
  unfold State.advancePpu
  split
  · rfl
  · simp only [State.ppuLoop_ime]; split <;> rfl
@[simp] theorem State.advancePpu_eiDelay (s : State) (c : Nat) : (s.advancePpu c).eiDelay = s.eiDelay := by
  unfold State.advancePpu
  split
  · rfl
  · simp only [State.ppuLoop_eiDelay]; split <;> rfl
@[simp] theorem State.advancePpu_halted (s : State) (c : Nat) : (s.advancePpu c).halted = s.halted := by
  unfold State.advancePpu
  split
  · rfl
  · simp only [State.ppuLoop_halted]; split <;> rfl
@[simp] theorem State.advancePpu_fatal (s : State) (c : Nat) : (s.advancePpu c).fatal = s.fatal := by
  unfold State.advancePpu
  split
  · rfl
  · simp only [State.ppuLoop_fatal]; split <;> rfl
@[simp] theorem State.advancePpu_intEnable (s : State) (c : Nat) : (s.advancePpu c).intEnable = s.intEnable := by
  unfold State.advancePpu
  split
  · rfl
  · simp only [State.ppuLoop_intEnable]; split <;> rfl
@[simp] theorem State.advancePpu_bootActive (s : State) (c : Nat) : (s.advancePpu c).bootActive = s.bootActive := by
  unfold State.advancePpu
  split
  · rfl
  · simp only [State.ppuLoop_bootActive]; split <;> rfl
@[simp] theorem State.advancePpu_boot (s : State) (c : Nat) : (s.advancePpu c).boot = s.boot := by
  unfold State.advancePpu
  split
  · rfl
  · simp only [State.ppuLoop_boot]; split <;> rfl
@[simp] theorem State.advancePpu_cart (s : State) (c : Nat) : (s.advancePpu c).cart = s.cart := by
  unfold State.advancePpu
  split
  · rfl
  · simp only [State.ppuLoop_cart]; split <;> rfl
@[simp] theorem State.advancePpu_vram (s : State) (c : Nat) : (s.advancePpu c).vram = s.vram := by
  unfold State.advancePpu
  split
  · rfl
  · simp only [State.ppuLoop_vram]; split <;> rfl
@[simp] theorem State.advancePpu_wram (s : State) (c : Nat) : (s.advancePpu c).wram = s.wram := by
  unfold State.advancePpu
  split
  · rfl
  · simp only [State.ppuLoop_wram]; split <;> rfl
@[simp] theorem State.advancePpu_oam (s : State) (c : Nat) : (s.advancePpu c).oam = s.oam := by
  unfold State.advancePpu
  split
  · rfl
  · simp only [State.ppuLoop_oam]; split <;> rfl
@[simp] theorem State.advancePpu_io (s : State) (c : Nat) : (s.advancePpu c).io = s.io := by
  unfold State.advancePpu
  split
  · rfl
  · simp only [State.ppuLoop_io]; split <;> rfl
@[simp] theorem State.advancePpu_hram (s : State) (c : Nat) : (s.advancePpu c).hram = s.hram := by
  unfold State.advancePpu
  split
  · rfl
  · simp only [State.ppuLoop_hram]; split <;> rfl
@[simp] theorem State.advancePpu_timer (s : State) (c : Nat) : (s.advancePpu c).timer = s.timer := by
  unfold State.advancePpu
  split
  · rfl
  · simp only [State.ppuLoop_timer]; split <;> rfl
@[simp] theorem State.advancePpu_serial (s : State) (c : Nat) : (s.advancePpu c).serial = s.serial := by
  unfold State.advancePpu
  split
  · rfl
  · simp only [State.ppuLoop_serial]; split <;> rfl
@[simp] theorem State.advancePpu_joypSel (s : State) (c : Nat) : (s.advancePpu c).joypSel = s.joypSel := by
  unfold State.advancePpu
  split
  · rfl
  · simp only [State.ppuLoop_joypSel]; split <;> rfl
@[simp] theorem State.advancePpu_dma (s : State) (c : Nat) : (s.advancePpu c).dma = s.dma := by
  unfold State.advancePpu
  split
  · rfl
  · simp only [State.ppuLoop_dma]; split <;> rfl
@[simp] theorem State.advancePpu_joypInput (s : State) (c : Nat) : (s.advancePpu c).joypInput = s.joypInput := by
  unfold State.advancePpu
  split
  · rfl
  · simp only [State.ppuLoop_joypInput]; split <;> rfl
@[simp] theorem State.advancePpu_joypQueue (s : State) (c : Nat) : (s.advancePpu c).joypQueue = s.joypQueue := by
  unfold State.advancePpu
  split
  · rfl
  · simp only [State.ppuLoop_joypQueue]; split <;> rfl
@[simp] theorem State.advancePpu_cycles (s : State) (c : Nat) : (s.advancePpu c).cycles = s.cycles := by
  unfold State.advancePpu
  split
  · rfl
  · simp only [State.ppuLoop_cycles]; split <;> rfl
@[simp] theorem State.advancePpu_draws (s : State) (c : Nat) : (s.advancePpu c).draws = s.draws := by
  unfold State.advancePpu
  split
  · rfl
  · simp only [State.ppuLoop_draws]; split <;> rfl
@[simp] theorem State.advancePpu_ppu_lcdc (s : State) (c : Nat) : (s.advancePpu c).ppu.lcdc = s.ppu.lcdc := by
  unfold State.advancePpu
  split
  · rfl
  · simp only [State.ppuLoop_ppu_lcdc]; split <;> rfl
@[simp] theorem State.advancePpu_ppu_stat (s : State) (c : Nat) : (s.advancePpu c).ppu.stat = s.ppu.stat := by
  unfold State.advancePpu
  split
  · rfl
  · simp only [State.ppuLoop_ppu_stat]; split <;> rfl
@[simp] theorem State.advancePpu_ppu_scy (s : State) (c : Nat) : (s.advancePpu c).ppu.scy = s.ppu.scy := by
  unfold State.advancePpu
  split
  · rfl
  · simp only [State.ppuLoop_ppu_scy]; split <;> rfl
@[simp] theorem State.advancePpu_ppu_scx (s : State) (c : Nat) : (s.advancePpu c).ppu.scx = s.ppu.scx := by
  unfold State.advancePpu
  split
  · rfl
  · simp only [State.ppuLoop_ppu_scx]; split <;> rfl
@[simp] theorem State.advancePpu_ppu_lyc (s : State) (c : Nat) : (s.advancePpu c).ppu.lyc = s.ppu.lyc := by
  unfold State.advancePpu
  split
  · rfl
  · simp only [State.ppuLoop_ppu_lyc]; split <;> rfl
@[simp] theorem State.advancePpu_ppu_bgp (s : State) (c : Nat) : (s.advancePpu c).ppu.bgp = s.ppu.bgp := by
  unfold State.advancePpu
  split
  · rfl
  · simp only [State.ppuLoop_ppu_bgp]; split <;> rfl
@[simp] theorem State.advancePpu_ppu_obp0 (s : State) (c : Nat) : (s.advancePpu c).ppu.obp0 = s.ppu.obp0 := by
  unfold State.advancePpu
  split
  · rfl
  · simp only [State.ppuLoop_ppu_obp0]; split <;> rfl
@[simp] theorem State.advancePpu_ppu_obp1 (s : State) (c : Nat) : (s.advancePpu c).ppu.obp1 = s.ppu.obp1 := by
  unfold State.advancePpu
  split
  · rfl
  · simp only [State.ppuLoop_ppu_obp1]; split <;> rfl
@[simp] theorem State.advancePpu_ppu_wy (s : State) (c : Nat) : (s.advancePpu c).ppu.wy = s.ppu.wy := by
  unfold State.advancePpu
  split
  · rfl
  · simp only [State.ppuLoop_ppu_wy]; split <;> rfl
@[simp] theorem State.advancePpu_ppu_wx (s : State) (c : Nat) : (s.advancePpu c).ppu.wx = s.ppu.wx := by
  unfold State.advancePpu
  split
  · rfl
  · simp only [State.ppuLoop_ppu_wx]; split <;> rfl

@[simp] theorem State.advance_regs (s : State) (c : Nat) : (s.advance c).regs = s.regs := by simp [State.advance]
@[simp] theorem State.advance_ime (s : State) (c : Nat) : (s.advance c).ime = s.ime := by simp [State.advance]
@[simp] theorem State.advance_eiDelay (s : State) (c : Nat) : (s.advance c).eiDelay = s.eiDelay := by simp [State.advance]
@[simp] theorem State.advance_halted (s : State) (c : Nat) : (s.advance c).halted = s.halted := by simp [State.advance]
@[simp] theorem State.advance_fatal (s : State) (c : Nat) : (s.advance c).fatal = s.fatal := by simp [State.advance]
@[simp] theorem State.advance_intEnable (s : State) (c : Nat) : (s.advance c).intEnable = s.intEnable := by simp [State.advance]
@[simp] theorem State.advance_bootActive (s : State) (c : Nat) : (s.advance c).bootActive = s.bootActive := by simp [State.advance]
@[simp] theorem State.advance_boot (s : State) (c : Nat) : (s.advance c).boot = s.boot := by simp [State.advance]
@[simp] theorem State.advance_cart (s : State) (c : Nat) : (s.advance c).cart = s.cart := by simp [State.advance]
@[simp] theorem State.advance_vram (s : State) (c : Nat) : (s.advance c).vram = s.vram := by simp [State.advance]
@[simp] theorem State.advance_wram (s : State) (c : Nat) : (s.advance c).wram = s.wram := by simp [State.advance]
@[simp] theorem State.advance_oam (s : State) (c : Nat) : (s.advance c).oam = s.oam := by simp [State.advance]
@[simp] theorem State.advance_io (s : State) (c : Nat) : (s.advance c).io = s.io := by simp [State.advance]
@[simp] theorem State.advance_hram (s : State) (c : Nat) : (s.advance c).hram = s.hram := by simp [State.advance]
@[simp] theorem State.advance_serial (s : State) (c : Nat) : (s.advance c).serial = s.serial := by simp [State.advance]
@[simp] theorem State.advance_joypSel (s : State) (c : Nat) : (s.advance c).joypSel = s.joypSel := by simp [State.advance]
@[simp] theorem State.advance_dma (s : State) (c : Nat) : (s.advance c).dma = s.dma := by simp [State.advance]
@[simp] theorem State.advance_joypInput (s : State) (c : Nat) : (s.advance c).joypInput = s.joypInput := by simp [State.advance]
@[simp] theorem State.advance_joypQueue (s : State) (c : Nat) : (s.advance c).joypQueue = s.joypQueue := by simp [State.advance]
@[simp] theorem State.advance_cycles (s : State) (c : Nat) : (s.advance c).cycles = s.cycles := by simp [State.advance]
@[simp] theorem State.advance_draws (s : State) (c : Nat) : (s.advance c).draws = s.draws := by simp [State.advance]
@[simp] theorem State.advance_timer_tma (s : State) (c : Nat) : (s.advance c).timer.tma = s.timer.tma := by simp [State.advance, State.advancePpu_timer]
@[simp] theorem State.advance_timer_tac (s : State) (c : Nat) : (s.advance c).timer.tac = s.timer.tac := by simp [State.advance, State.advancePpu_timer]
@[simp] theorem State.advance_ppu_lcdc (s : State) (c : Nat) : (s.advance c).ppu.lcdc = s.ppu.lcdc := by simp [State.advance, State.advanceTimer_ppu]
@[simp] theorem State.advance_ppu_stat (s : State) (c : Nat) : (s.advance c).ppu.stat = s.ppu.stat := by simp [State.advance, State.advanceTimer_ppu]
@[simp] theorem State.advance_ppu_scy (s : State) (c : Nat) : (s.advance c).ppu.scy = s.ppu.scy := by simp [State.advance, State.advanceTimer_ppu]
@[simp] theorem State.advance_ppu_scx (s : State) (c : Nat) : (s.advance c).ppu.scx = s.ppu.scx := by simp [State.advance, State.advanceTimer_ppu]
@[simp] theorem State.advance_ppu_lyc (s : State) (c : Nat) : (s.advance c).ppu.lyc = s.ppu.lyc := by simp [State.advance, State.advanceTimer_ppu]
@[simp] theorem State.advance_ppu_bgp (s : State) (c : Nat) : (s.advance c).ppu.bgp = s.ppu.bgp := by simp [State.advance, State.advanceTimer_ppu]
@[simp] theorem State.advance_ppu_obp0 (s : State) (c : Nat) : (s.advance c).ppu.obp0 = s.ppu.obp0 := by simp [State.advance, State.advanceTimer_ppu]
@[simp] theorem State.advance_ppu_obp1 (s : State) (c : Nat) : (s.advance c).ppu.obp1 = s.ppu.obp1 := by simp [State.advance, State.advanceTimer_ppu]
@[simp] theorem State.advance_ppu_wy (s : State) (c : Nat) : (s.advance c).ppu.wy = s.ppu.wy := by simp [State.advance, State.advanceTimer_ppu]
@[simp] theorem State.advance_ppu_wx (s : State) (c : Nat) : (s.advance c).ppu.wx = s.ppu.wx := by simp [State.advance, State.advanceTimer_ppu]

/-! ### The pipeline keeps its ranges -/

/-- A budget is at least 80 cycles. -/
theorem modeCycles_ge (m : PpuMode) : 80 ≤ modeCycles m := by cases m <;> decide

/-- Leaving a mode keeps the lines each mode has (R410). -/
theorem State.leaveMode_lines {s : State}
    (h : if s.ppu.mode = .vblank then 144 ≤ s.ppu.ly.toNat ∧ s.ppu.ly.toNat ≤ 153 else s.ppu.ly.toNat < 144) :
    if s.leaveMode.ppu.mode = .vblank then 144 ≤ s.leaveMode.ppu.ly.toNat ∧ s.leaveMode.ppu.ly.toNat ≤ 153
    else s.leaveMode.ppu.ly.toNat < 144 := by
  have hadd : s.ppu.ly.toNat < 255 → (s.ppu.ly + 1).toNat = s.ppu.ly.toNat + 1 := by
    intro hl; rw [BitVec.toNat_add]; simp; omega
  unfold State.leaveMode
  cases hm : s.ppu.mode <;> simp only [hm] at h ⊢
  · simpa using h
  · simpa using h
  · simp only [reduceCtorEq, if_false] at h
    by_cases h1 : (s.setLy (s.ppu.ly + 1)).ppu.ly = firstVblankLine
    · rw [if_pos h1]
      simp only [State.setLy_ppu_ly] at h1
      simp only [State.setMode_ppu_mode, if_true, State.setMode_ppu_ly, State.setLy_ppu_ly, h1]
      decide
    · rw [if_neg h1]
      simp only [State.setLy_ppu_ly] at h1
      have h2 : (s.ppu.ly + 1).toNat ≠ 144 := fun e => h1 (BitVec.eq_of_toNat_eq (by simpa [firstVblankLine] using e))
      have h3 := hadd (by omega)
      simp only [State.setMode_ppu_mode, reduceCtorEq, if_false, State.setMode_ppu_ly, State.setLy_ppu_ly]
      omega
  · simp only [if_true] at h
    by_cases h1 : s.ppu.ly = lastLine
    · simp [h1]
    · rw [if_neg h1]
      have h2 : s.ppu.ly.toNat ≠ 153 := fun e => h1 (BitVec.eq_of_toNat_eq (by simpa [lastLine] using e))
      have h3 := hadd (by omega)
      simp only [State.setLy_ppu_mode, hm, if_true, State.setLy_ppu_ly]
      omega

/-- The loop of AdvancePPU keeps the lines of the modes, and with enough fuel ends with the clock below the budget (R410). -/
theorem State.ppuLoop_ok {n : Nat} {s : State} (hn : s.ppu.clock < 80 * n)
    (h : if s.ppu.mode = .vblank then 144 ≤ s.ppu.ly.toNat ∧ s.ppu.ly.toNat ≤ 153 else s.ppu.ly.toNat < 144)
    (hoff : s.ppu.off = false) : (State.ppuLoop n s).ppu.Ok := by
  induction n generalizing s with
  | zero => omega
  | succ n ih =>
    unfold State.ppuLoop
    split
    · rename_i hc
      exact ⟨hc, h, fun h' => by simp [hoff] at h'⟩
    · rename_i hc
      have := modeCycles_ge s.ppu.mode
      refine ih ?_ (State.leaveMode_lines h) (by simpa using hoff)
      simp only [State.leaveMode_ppu_clock]
      omega

/-- AdvancePPU leaves a sound pipeline, from any lines that the modes have. -/
theorem State.advancePpu_ok {s : State} (h : s.ppu.Ok) (c : Nat) : (s.advancePpu c).ppu.Ok := by
  unfold State.advancePpu
  split
  · exact ⟨by simp [State.displayOff, modeCycles], by simp [State.displayOff], fun _ => by simp [State.displayOff]⟩
  · refine State.ppuLoop_ok (by simp only; omega) ?_ ?_
    · split
      · simp [State.displayOn]
      · exact h.2.1
    · split
      · rfl
      · rename_i h'; simpa using h'

/-! ### The framebuffer keeps its form -/

theorem shadeRgba_length (k : Nat) : (shadeRgba k).length = 4 := by
  unfold shadeRgba; split <;> rfl

/-- A line is 640 bytes. -/
theorem State.lineRgba_length (s : State) (ly : Nat) : (s.lineRgba ly).length = 640 := by
  simp [State.lineRgba, List.length_flatMap, shadeRgba_length, screenWidth]

/-- Rendering a visible line keeps the framebuffer in canonical form and inside its size (R6, R420). -/
theorem State.renderLine_framebuffer {s : State} {ly : Nat}
    (h : s.ppu.framebuffer.Wf ∧ s.ppu.framebuffer.Within (160 * 144 * 4)) (hly : ly < 144) :
    (s.renderLine ly).ppu.framebuffer.Wf ∧ (s.renderLine ly).ppu.framebuffer.Within (160 * 144 * 4) :=
  ⟨Memory.writeRange_wf h.1 _ _,
    Memory.writeRange_within h.2 (by rw [State.lineRgba_length, lineBytes]; omega)⟩

theorem State.leaveMode_framebuffer {s : State}
    (h : s.ppu.framebuffer.Wf ∧ s.ppu.framebuffer.Within (160 * 144 * 4))
    (hl : if s.ppu.mode = .vblank then 144 ≤ s.ppu.ly.toNat ∧ s.ppu.ly.toNat ≤ 153 else s.ppu.ly.toNat < 144) :
    s.leaveMode.ppu.framebuffer.Wf ∧ s.leaveMode.ppu.framebuffer.Within (160 * 144 * 4) := by
  unfold State.leaveMode
  cases hm : s.ppu.mode <;> simp only [hm] at hl ⊢
  · exact h
  · exact State.renderLine_framebuffer h (by simpa using hl)
  · split <;> exact h
  · split <;> exact h

theorem State.ppuLoop_framebuffer {n : Nat} {s : State}
    (h : s.ppu.framebuffer.Wf ∧ s.ppu.framebuffer.Within (160 * 144 * 4))
    (hl : if s.ppu.mode = .vblank then 144 ≤ s.ppu.ly.toNat ∧ s.ppu.ly.toNat ≤ 153 else s.ppu.ly.toNat < 144) :
    (State.ppuLoop n s).ppu.framebuffer.Wf ∧ (State.ppuLoop n s).ppu.framebuffer.Within (160 * 144 * 4) := by
  induction n generalizing s with
  | zero => exact h
  | succ n ih =>
    unfold State.ppuLoop
    split
    · exact h
    · exact ih (State.leaveMode_framebuffer h hl) (State.leaveMode_lines hl)

/-- AdvancePPU keeps the framebuffer in canonical form and inside its size. -/
theorem State.advancePpu_framebuffer {s : State} (h : s.ppu.framebuffer.Wf ∧ s.ppu.framebuffer.Within (160 * 144 * 4))
    (hp : s.ppu.Ok) (c : Nat) :
    (s.advancePpu c).ppu.framebuffer.Wf ∧ (s.advancePpu c).ppu.framebuffer.Within (160 * 144 * 4) := by
  unfold State.advancePpu
  split
  · exact h
  · refine State.ppuLoop_framebuffer ?_ ?_
    · split <;> exact h
    · split
      · simp [State.displayOn]
      · exact hp.2.1

end Sys2Proof.Machine
end

