-- ==== Sys2Proof/Laws/Invariant.lean ====
section
/-! SUPPORT. What the shared operations keep of the invariant `State.Inv`. Inside a step, between an instruction that writes TAC and the
timer's advance, TIMA's accumulator may exceed the new period; `State.MidInv` is the invariant without that one clause. -/

namespace Sys2Proof.Machine

/-- The invariant inside a step: all of `State.Inv` but the bound of TIMA's accumulator by the period in force. -/
def State.MidInv (s : State) : Prop :=
  s.StorageOk ∧ s.cart.Ok ∧ s.timer.divAcc < divPeriod ∧ s.timer.timaAcc < 1024 ∧ s.ppu.Ok ∧ s.eiDelay ≤ 2 ∧
    s.serial.sc[7] = false

theorem State.Inv.mid {s : State} (h : s.Inv) : s.MidInv :=
  ⟨h.1, h.2.1, h.2.2.1.1, h.2.2.1.2.1, h.2.2.2.1, h.2.2.2.2⟩

/-- The invariant says nothing about the register file, the cost and the draws, so the updates of these keep it. -/
theorem State.midInv_regs (s : State) (r : Regs) (n k : Nat) :
    State.MidInv { s with regs := r, cycles := n, draws := k } ↔ s.MidInv := Iff.rfl

@[simp] theorem State.setA_midInv (s : State) (v : Byte) : (s.setA v).MidInv ↔ s.MidInv := Iff.rfl
@[simp] theorem State.setF_midInv (s : State) (f : Flags) : (s.setF f).MidInv ↔ s.MidInv := Iff.rfl
@[simp] theorem State.setSp_midInv (s : State) (v : Word) : (s.setSp v).MidInv ↔ s.MidInv := Iff.rfl
@[simp] theorem State.setPc_midInv (s : State) (v : Word) : (s.setPc v).MidInv ↔ s.MidInv := Iff.rfl
@[simp] theorem State.setAf_midInv (s : State) (v : Word) : (s.setAf v).MidInv ↔ s.MidInv := Iff.rfl
@[simp] theorem State.setBc_midInv (s : State) (v : Word) : (s.setBc v).MidInv ↔ s.MidInv := Iff.rfl
@[simp] theorem State.setDe_midInv (s : State) (v : Word) : (s.setDe v).MidInv ↔ s.MidInv := Iff.rfl
@[simp] theorem State.setHl_midInv (s : State) (v : Word) : (s.setHl v).MidInv ↔ s.MidInv := Iff.rfl
@[simp] theorem State.spend_midInv (s : State) (n : Nat) : (s.spend n).MidInv ↔ s.MidInv := Iff.rfl
@[simp] theorem State.retire_midInv (s : State) (k : Word) (n : Nat) : (s.retire k n).MidInv ↔ s.MidInv := Iff.rfl
@[simp] theorem State.jump_midInv (s : State) (t : Word) (n : Nat) : (s.jump t n).MidInv ↔ s.MidInv := Iff.rfl
@[simp] theorem State.raiseFatal_midInv (s : State) (k : FatalKind) (op : Byte) : (s.raiseFatal k op).MidInv ↔ s.MidInv := Iff.rfl

@[simp] theorem State.setReg8_midInv (s : State) (r : Reg8) (v : Byte) : (s.setReg8 r v).MidInv ↔ s.MidInv := by
  cases r <;> exact Iff.rfl

@[simp] theorem State.setReg16_midInv (s : State) (r : Reg16) (v : Word) : (s.setReg16 r v).MidInv ↔ s.MidInv := by
  cases r <;> exact Iff.rfl

@[simp] theorem State.setStackReg_midInv (s : State) (r : StackReg) (v : Word) :
    (s.setStackReg r v).MidInv ↔ s.MidInv := by
  cases r <;> exact Iff.rfl

theorem State.afterRead_midInv {s : State} (h : s.MidInv) (a : Word) : (s.afterRead a).MidInv := by
  rcases s.afterRead_cases a with e | e <;> rw [e] <;> exact h

/-- Writing one offset of a storage keeps its form and size. -/
theorem Memory.write_ok {m : Memory} {size off : Nat} (h : m.Wf ∧ m.Within size) (ho : off < size) (v : Byte) :
    (m.write off v).Wf ∧ (m.write off v).Within size :=
  ⟨Memory.write_wf h.1 off v, Memory.write_within h.2 ho v⟩

/-- OAM DMA keeps the invariant (R96). -/
theorem State.dmaCopy_midInv {n : Nat} {src : Word} {off : Nat} {s : State} (h : s.MidInv) (ho : off + n ≤ 0xA0) :
    (State.dmaCopy n src off s).MidInv := by
  induction n generalizing src off s with
  | zero => exact h
  | succ n ih =>
    refine ih ?_ (by omega)
    obtain ⟨⟨hb, hv, hw, ho', hi, hh, hf⟩, hr⟩ := State.afterRead_midInv h src
    exact ⟨⟨hb, hv, hw, Memory.write_ok ho' (by omega) _, hi, hh, hf⟩, hr⟩

/-- The offset of a plain I/O cell is its own. -/
theorem ioRegAt_plain {n off : Nat} (h : ioRegAt n = .plain off) : off = n := by
  have skip : ∀ {c : Prop} [Decidable c] {r x : IoReg}, (if c then r else x) = .plain off → r ≠ .plain off → x = .plain off := by
    intro c _ r x h hr
    by_cases hc : c
    · exact absurd (by simpa [hc] using h) hr
    · simpa [hc] using h
  unfold ioRegAt at h
  repeat replace h := skip h (by intro e; cases e)
  exact (IoReg.plain.inj h).symm

/-- A region's offset is inside its storage. -/
def Region.InSize : Region → Prop
  | .rom off => off < 0x8000
  | .vram off => off < 0x2000
  | .eram off => off < 0x2000
  | .wram off => off < 0x2000
  | .oam off => off < 0xA0
  | .io reg => ∀ off, reg = .plain off → off < 0x80
  | .hram off => off < 0x7F
  | .unusable => True
  | .intEnable => True

/-- Every address reaches an offset inside the storage (R60). -/
theorem regionOf_inSize (a : Word) : (regionOf a).InSize := by
  have ha := a.isLt
  unfold regionOf
  split_ifs <;> simp only [Region.InSize] <;> try omega
  intro off ho
  have := ioRegAt_plain ho
  omega

/-- The index of an external-RAM access is inside the storage (R77, R85). -/
theorem Cart.eramAccess_lt {c : Cart} {off index : Nat} (ho : off < 0x2000)
    (he : c.eramAccess off = .cell index) : index < c.eramSize := by
  unfold Cart.eramAccess at he
  cases hc : c.controller with
  | direct => simp [hc] at he; simp [Cart.eramSize, hc]; omega
  | mbc1 r =>
    simp only [hc] at he
    split at he
    · simp at he
    · rename_i h1
      simp only [EramAccess.cell.injEq] at he
      simp only [Cart.eramSize, hc, reduceCtorEq, if_false]
      rw [← he]
      exact Nat.mod_lt _ (by simp only [not_or] at h1; omega)
  | mbc3 r =>
    simp only [hc] at he
    split at he
    · simp at he
    · split at he
      · simp at he
      · split at he
        · simp at he
        · rename_i h1
          simp only [EramAccess.cell.injEq] at he
          simp only [Cart.eramSize, hc, reduceCtorEq, if_false]
          rw [← he]
          exact Nat.mod_lt _ (by omega)

theorem Controller.write_direct_iff (off : Nat) (v : Byte) (c : Controller) :
    c.write off v = .direct ↔ c = .direct := by
  cases c
  · simp [Controller.write]
  · simp only [Controller.write, reduceCtorEq, iff_false]; split <;> [skip; (split <;> [skip; split])] <;> simp
  · simp only [Controller.write, reduceCtorEq, iff_false]; split <;> [skip; (split <;> [skip; split])] <;> simp

theorem State.writeIo_midInv {s : State} (h : s.MidInv) (v : Byte) {r : IoReg}
    (hr : ∀ off, r = .plain off → off < 0x80) : (s.writeIo v r).MidInv := by
  obtain ⟨⟨hb, hv, hw, ho, hi, hh, hf⟩, hc, hd, ht, hp, he, hs⟩ := h
  have hpos : 0 < divPeriod := by decide
  cases r
  case dma =>
    exact State.dmaCopy_midInv ⟨⟨hb, hv, hw, ho, hi, hh, hf⟩, hc, hd, ht, hp, he, hs⟩ (Nat.le_refl _)
  case sc =>
    simp only [State.writeIo]
    split
    · exact ⟨⟨hb, hv, hw, ho, hi, hh, hf⟩, hc, hd, ht, hp, he, by simp⟩
    · rename_i h7
      exact ⟨⟨hb, hv, hw, ho, hi, hh, hf⟩, hc, hd, ht, hp, he, by simpa using h7⟩
  case plain off => exact ⟨⟨hb, hv, hw, ho, Memory.write_ok hi (hr off rfl) v, hh, hf⟩, hc, hd, ht, hp, he, hs⟩
  case div => exact ⟨⟨hb, hv, hw, ho, hi, hh, hf⟩, hc, hpos, Nat.zero_lt_succ _, hp, he, hs⟩
  all_goals exact ⟨⟨hb, hv, hw, ho, hi, hh, hf⟩, hc, hd, ht, hp, he, hs⟩

/-- A write keeps the invariant (R61). -/
theorem State.writeByte_midInv {s : State} (h : s.MidInv) (a : Word) (v : Byte) : (s.writeByte a v).MidInv := by
  have hb := regionOf_inSize a
  unfold State.writeByte
  have h' := h
  obtain ⟨⟨h0, hv, hw, ho, hi, hh, hf⟩, hc, hd, ht, hp, he, hs⟩ := h'
  cases hr : regionOf a <;> simp only [hr, Region.InSize] at hb <;> simp only [State.writeRegion]
  case rom off =>
    refine ⟨⟨h0, hv, hw, ho, hi, hh, hf⟩, ?_, hd, ht, hp, he, hs⟩
    obtain ⟨c1, c2, c3, c4, c5, c6⟩ := hc
    refine ⟨fun e => c1 ((Controller.write_direct_iff _ _ _).mp e), c2, c3, c4, c5, ?_⟩
    simpa only [Cart.eramSize, Controller.write_direct_iff] using c6
  case vram off => exact ⟨⟨h0, Memory.write_ok hv hb v, hw, ho, hi, hh, hf⟩, hc, hd, ht, hp, he, hs⟩
  case wram off => exact ⟨⟨h0, hv, Memory.write_ok hw hb v, ho, hi, hh, hf⟩, hc, hd, ht, hp, he, hs⟩
  case oam off => exact ⟨⟨h0, hv, hw, Memory.write_ok ho hb v, hi, hh, hf⟩, hc, hd, ht, hp, he, hs⟩
  case hram off => exact ⟨⟨h0, hv, hw, ho, hi, Memory.write_ok hh hb v, hf⟩, hc, hd, ht, hp, he, hs⟩
  case unusable => exact h
  case intEnable => exact h
  case eram off =>
    unfold State.writeEram
    split
    · exact h
    · exact h
    · rename_i index hx
      exact ⟨⟨h0, hv, hw, ho, hi, hh, hf⟩,
        ⟨hc.1, hc.2.1, hc.2.2.1, hc.2.2.2.1, hc.2.2.2.2.1, Memory.write_ok hc.2.2.2.2.2 (Cart.eramAccess_lt hb hx) v⟩,
        hd, ht, hp, he, hs⟩
  case io r => exact State.writeIo_midInv h v hb

theorem State.push16_midInv {s : State} (h : s.MidInv) (v : Word) : (s.push16 v).MidInv := by
  unfold State.push16
  exact (State.setSp_midInv _ _).mpr (State.writeByte_midInv (State.writeByte_midInv h _ _) _ _)

theorem State.pop16_midInv {s : State} (h : s.MidInv) : s.pop16.2.MidInv := by
  unfold State.pop16 State.readMem
  exact (State.setSp_midInv _ _).mpr (State.afterRead_midInv (State.afterRead_midInv h _) _)

theorem State.dispatch_midInv {s : State} (h : s.MidInv) (i : Nat) : (s.dispatch i).MidInv := by
  have hp := State.push16_midInv h s.regs.pc
  unfold State.dispatch
  unfold State.MidInv at *
  exact hp

theorem State.readOperand_midInv {s : State} (h : s.MidInv) (o : Operand8) : (s.readOperand o).2.MidInv := by
  cases o
  · exact h
  · exact State.afterRead_midInv h _

theorem State.writeOperand_midInv {s : State} (h : s.MidInv) (o : Operand8) (v : Byte) : (s.writeOperand o v).MidInv := by
  cases o
  · exact (State.setReg8_midInv s _ v).mpr h
  · exact State.writeByte_midInv h _ v

/-- An advance of the devices restores the whole invariant (R350, R400, R410). -/
theorem State.advance_inv {s : State} (h : s.MidInv) (c : Nat) : (s.advance c).Inv := by
  obtain ⟨⟨h0, hv, hw, ho, hi, hh, hf⟩, hc, hd, ht, hp, he, hs⟩ := h
  have hp' : (s.advanceTimer c).ppu.Ok := by simpa using hp
  refine ⟨⟨by simpa using h0, by simpa using hv, by simpa using hw, by simpa using ho, by simpa using hi, by simpa using hh,
    State.advancePpu_framebuffer (by simpa using hf) hp' c⟩, by simpa using hc, ?_, State.advancePpu_ok hp' c,
    by simpa using he, by simpa using hs⟩
  have := State.advanceTimer_ok ht c
  simpa [State.advance] using this

end Sys2Proof.Machine
end

