-- ==== Sys2Proof/Laws/Exec.lean ====
section
/-! SUPPORT. What an instruction can do, said once: `Shape s t` lists the forms a next state can have, and `exec_shape` says that every
instruction answers a next state of one of them. Invariants of `exec` are nine cases over it. -/

namespace Sys2Proof.Machine

/-- The forms of the state `t` after an instruction that started in `s`. -/
inductive Shape (s : State) : State → Prop where
  /-- Only registers and the cost: no memory is touched. -/
  | regs (r : Regs) (n : Nat) : Shape s { s with regs := r, cycles := n }
  /-- One byte is read. -/
  | read (a : Word) (u : State) (h : u = s.afterRead a) (r : Regs) (n : Nat) : Shape s { u with regs := r, cycles := n }
  /-- Two bytes are read. -/
  | read2 (a b : Word) (u : State) (h : u = (s.afterRead a).afterRead b) (r : Regs) (n : Nat) :
      Shape s { u with regs := r, cycles := n }
  /-- One byte is written. -/
  | write (a : Word) (v : Byte) (u : State) (h : u = s.writeByte a v) (r : Regs) (n : Nat) :
      Shape s { u with regs := r, cycles := n }
  /-- Two bytes are written, one after the other. -/
  | write2 (a : Word) (v : Byte) (b : Word) (w : Byte) (u : State) (h : u = (s.writeByte a v).writeByte b w) (r : Regs) (n : Nat) :
      Shape s { u with regs := r, cycles := n }
  /-- One byte is read and then written. -/
  | readWrite (a : Word) (v : Byte) (u : State) (h : u = (s.afterRead a).writeByte a v) (r : Regs) (n : Nat) :
      Shape s { u with regs := r, cycles := n }
  /-- Interrupt and execution control: DI, EI and HALT. -/
  | control (r : Regs) (n : Nat) (ime halted : Bool) (eiDelay : Nat) (h : eiDelay = 0 ∨ eiDelay = 2 ∨ eiDelay = s.eiDelay)
      (hi : ime = s.ime ∨ ime = false) :
      Shape s { s with regs := r, cycles := n, ime := ime, halted := halted, eiDelay := eiDelay }
  /-- RETI: two bytes are read and `ime` is set. -/
  | reti (a b : Word) (u : State) (h : u = (s.afterRead a).afterRead b) (r : Regs) (n : Nat) :
      Shape s { u with regs := r, cycles := n, ime := true }
  /-- A Fatal condition is raised. -/
  | fatal (kind : FatalKind) (opcode : Byte) : Shape s (s.raiseFatal kind opcode)

/-! ### The shapes of the shared operations -/

theorem shape_setReg8 (s : State) (r : Reg8) (v : Byte) (k : Word) (n : Nat) : Shape s ((s.setReg8 r v).retire k n) := by
  cases r <;> exact .regs _ _

theorem shape_setReg16 (s : State) (r : Reg16) (v : Word) (k : Word) (n : Nat) : Shape s ((s.setReg16 r v).retire k n) := by
  cases r <;> exact .regs _ _

theorem shape_load8 (s : State) (dst : Reg8) (a k : Word) (n : Nat) : Shape s (s.load8 dst a k n) := by
  simp only [State.load8]
  generalize h : s.afterRead a = u
  cases dst <;> exact .read a u h.symm _ _

theorem shape_load8_setHl (s : State) (dst : Reg8) (a k v : Word) (n : Nat) : Shape s ((s.load8 dst a k n).setHl v) := by
  simp only [State.load8]
  generalize h : s.afterRead a = u
  cases dst <;> exact .read a u h.symm _ _

theorem shape_store8 (s : State) (a k : Word) (v : Byte) (n : Nat) : Shape s (s.store8 a v k n) := by
  unfold State.store8
  generalize h : s.writeByte a v = u
  exact .write a v u h.symm _ _

theorem shape_store8_setHl (s : State) (a k w : Word) (v : Byte) (n : Nat) : Shape s ((s.store8 a v k n).setHl w) := by
  unfold State.store8
  generalize h : s.writeByte a v = u
  exact .write a v u h.symm _ _

theorem shape_popReg (s : State) (r : StackReg) : Shape s (s.popReg r) := by
  simp only [State.popReg, State.pop16, State.readMem]
  generalize h : (s.afterRead s.regs.sp).afterRead (s.regs.sp + 1) = u
  cases r <;> exact .read2 _ _ u h.symm _ _

theorem shape_alu (s : State) (op : AluOp) (v : Byte) (k : Word) (n : Nat) : Shape s ((s.aluWith op v).retire k n) := .regs _ _

theorem shape_aluAtHl (s : State) (op : AluOp) : Shape s (s.aluAtHl op) := by
  simp only [State.aluAtHl]
  generalize h : s.afterRead s.hl = u
  exact .read s.hl u h.symm _ _

theorem shape_incOperand (s : State) (o : Operand8) : Shape s (s.incOperand o) := by
  cases o with
  | reg r => cases r <;> exact .regs _ _
  | atHl =>
    have : (s.afterRead s.hl).hl = s.hl := by simp [State.hl]
    simp only [State.incOperand, State.readOperand, State.readMem, State.writeOperand, this]
    generalize h : (s.afterRead s.hl).writeByte s.hl _ = u
    exact .readWrite s.hl _ u h.symm _ _

theorem shape_decOperand (s : State) (o : Operand8) : Shape s (s.decOperand o) := by
  cases o with
  | reg r => cases r <;> exact .regs _ _
  | atHl =>
    have : (s.afterRead s.hl).hl = s.hl := by simp [State.hl]
    simp only [State.decOperand, State.readOperand, State.readMem, State.writeOperand, this]
    generalize h : (s.afterRead s.hl).writeByte s.hl _ = u
    exact .readWrite s.hl _ u h.symm _ _

theorem shape_rotateOperand (s : State) (op : RotOp) (o : Operand8) : Shape s (s.rotateOperand op o) := by
  cases o with
  | reg r => cases r <;> exact .regs _ _
  | atHl =>
    have : (s.afterRead s.hl).hl = s.hl := by simp [State.hl]
    simp only [State.rotateOperand, State.readOperand, State.readMem, State.writeOperand, this]
    generalize h : (s.afterRead s.hl).writeByte s.hl _ = u
    exact .readWrite s.hl _ u h.symm _ _

theorem shape_testBit (s : State) (b : Fin 8) (o : Operand8) : Shape s (s.testBit b o) := by
  cases o with
  | reg r => exact .regs _ _
  | atHl =>
    simp only [State.testBit, State.readOperand, State.readMem]
    generalize h : s.afterRead s.hl = u
    exact .read s.hl u h.symm _ _

theorem shape_resetBit (s : State) (b : Fin 8) (o : Operand8) : Shape s (s.resetBit b o) := by
  cases o with
  | reg r => cases r <;> exact .regs _ _
  | atHl =>
    have : (s.afterRead s.hl).hl = s.hl := by simp [State.hl]
    simp only [State.resetBit, State.readOperand, State.readMem, State.writeOperand, this]
    generalize h : (s.afterRead s.hl).writeByte s.hl _ = u
    exact .readWrite s.hl _ u h.symm _ _

theorem shape_assignBit (s : State) (b : Fin 8) (o : Operand8) : Shape s (s.assignBit b o) := by
  cases o with
  | reg r => cases r <;> exact .regs _ _
  | atHl =>
    have : (s.afterRead s.hl).hl = s.hl := by simp [State.hl]
    simp only [State.assignBit, State.readOperand, State.readMem, State.writeOperand, this]
    generalize h : (s.afterRead s.hl).writeByte s.hl _ = u
    exact .readWrite s.hl _ u h.symm _ _

theorem shape_runCb (s : State) (op2 : Byte) : Shape s (s.runCb op2) := by
  unfold State.runCb
  split
  · exact shape_rotateOperand _ _ _
  · exact shape_testBit _ _ _
  · exact shape_resetBit _ _ _
  · exact shape_assignBit _ _ _

theorem shape_jump (s : State) (t : Word) (n : Nat) : Shape s (s.jump t n) := .regs _ _

theorem shape_retire (s : State) (k : Word) (n : Nat) : Shape s (s.retire k n) := .regs _ _

theorem shape_jumpIf (s : State) (cc : Cond) (t : Word) : Shape s (s.jumpIf cc t) := by
  unfold State.jumpIf; split
  · exact shape_jump _ _ _
  · exact shape_retire _ _ _

theorem shape_jumpRelativeIf (s : State) (cc : Cond) (e : Byte) : Shape s (s.jumpRelativeIf cc e) := by
  unfold State.jumpRelativeIf; split
  · exact shape_jump _ _ _
  · exact shape_retire _ _ _

theorem shape_push (s : State) (v k : Word) (n : Nat) : Shape s ((s.push16 v).retire k n) := by
  unfold State.push16
  generalize h : (s.writeByte _ _).writeByte _ _ = u
  exact .write2 _ _ _ _ u h.symm _ _

theorem shape_call (s : State) (t : Word) : Shape s (s.call t) := by
  unfold State.call State.push16
  generalize h : (s.writeByte _ _).writeByte _ _ = u
  exact .write2 _ _ _ _ u h.symm _ _

theorem shape_callIf (s : State) (cc : Cond) (t : Word) : Shape s (s.callIf cc t) := by
  unfold State.callIf; split
  · exact shape_call _ _
  · exact shape_retire _ _ _

theorem shape_restart (s : State) (y : Fin 8) : Shape s (s.restart y) := by
  unfold State.restart State.push16
  generalize h : (s.writeByte _ _).writeByte _ _ = u
  exact .write2 _ _ _ _ u h.symm _ _

theorem shape_returnWith (s : State) (n : Nat) : Shape s (s.returnWith n) := by
  simp only [State.returnWith, State.pop16, State.readMem]
  generalize h : (s.afterRead s.regs.sp).afterRead (s.regs.sp + 1) = u
  exact .read2 _ _ u h.symm _ _

theorem shape_reti (s : State) (n : Nat) : Shape s (s.returnFromInterrupt.spend n) := by
  simp only [State.returnFromInterrupt, State.pop16, State.readMem]
  generalize h : (s.afterRead s.regs.sp).afterRead (s.regs.sp + 1) = u
  exact .reti _ _ u h.symm _ _

theorem shape_storeWord (s : State) (a v k : Word) (n : Nat) : Shape s (s.storeWord a v k n) := by
  unfold State.storeWord
  generalize h : (s.writeByte _ _).writeByte _ _ = u
  exact .write2 _ _ _ _ u h.symm _ _

theorem shape_returnIf (s : State) (cc : Cond) : Shape s (s.returnIf cc) := by
  unfold State.returnIf; split
  · exact shape_returnWith _ _
  · exact shape_retire _ _ _

/-! ### Every instruction -/

/-- Every instruction answers a next state of one of the forms of `Shape`. -/
theorem exec_shape (i : Instr) (s : State) : ∃ t, exec i s = .next t ∧ Shape s t := by
  cases i with
  | nop => exact ⟨_, rfl, .regs _ _⟩
  | ldBcNn _ => exact ⟨_, rfl, shape_setReg16 _ _ _ _ _⟩
  | ldAtBcA => exact ⟨_, rfl, shape_store8 _ _ _ _ _⟩
  | incBc => exact ⟨_, rfl, shape_setReg16 _ _ _ _ _⟩
  | incB => exact ⟨_, rfl, shape_incOperand _ _⟩
  | decB => exact ⟨_, rfl, shape_decOperand _ _⟩
  | ldBN _ => exact ⟨_, rfl, shape_setReg8 _ _ _ _ _⟩
  | rlcAcc => exact ⟨_, rfl, .regs _ _⟩
  | ldAtNnSp _ => exact ⟨_, rfl, shape_storeWord _ _ _ _ _⟩
  | addHlBc => exact ⟨_, rfl, .regs _ _⟩
  | ldAAtBc => exact ⟨_, rfl, shape_load8 _ _ _ _ _⟩
  | decBc => exact ⟨_, rfl, shape_setReg16 _ _ _ _ _⟩
  | incC => exact ⟨_, rfl, shape_incOperand _ _⟩
  | decC => exact ⟨_, rfl, shape_decOperand _ _⟩
  | ldCN _ => exact ⟨_, rfl, shape_setReg8 _ _ _ _ _⟩
  | rrcAcc => exact ⟨_, rfl, .regs _ _⟩
  | stop => exact ⟨_, rfl, .fatal _ _⟩
  | ldDeNn _ => exact ⟨_, rfl, shape_setReg16 _ _ _ _ _⟩
  | ldAtDeA => exact ⟨_, rfl, shape_store8 _ _ _ _ _⟩
  | incDe => exact ⟨_, rfl, shape_setReg16 _ _ _ _ _⟩
  | incD => exact ⟨_, rfl, shape_incOperand _ _⟩
  | decD => exact ⟨_, rfl, shape_decOperand _ _⟩
  | ldDN _ => exact ⟨_, rfl, shape_setReg8 _ _ _ _ _⟩
  | rlAcc => exact ⟨_, rfl, .regs _ _⟩
  | jrE _ => exact ⟨_, rfl, .regs _ _⟩
  | addHlDe => exact ⟨_, rfl, .regs _ _⟩
  | ldAAtDe => exact ⟨_, rfl, shape_load8 _ _ _ _ _⟩
  | decDe => exact ⟨_, rfl, shape_setReg16 _ _ _ _ _⟩
  | incE => exact ⟨_, rfl, shape_incOperand _ _⟩
  | decE => exact ⟨_, rfl, shape_decOperand _ _⟩
  | ldEN _ => exact ⟨_, rfl, shape_setReg8 _ _ _ _ _⟩
  | rrAcc => exact ⟨_, rfl, .regs _ _⟩
  | jrNzE _ => exact ⟨_, rfl, shape_jumpRelativeIf _ _ _⟩
  | ldHlNn _ => exact ⟨_, rfl, shape_setReg16 _ _ _ _ _⟩
  | ldAtHlIncA => exact ⟨_, rfl, shape_store8_setHl _ _ _ _ _ _⟩
  | incHl => exact ⟨_, rfl, shape_setReg16 _ _ _ _ _⟩
  | incH => exact ⟨_, rfl, shape_incOperand _ _⟩
  | decH => exact ⟨_, rfl, shape_decOperand _ _⟩
  | ldHN _ => exact ⟨_, rfl, shape_setReg8 _ _ _ _ _⟩
  | daa => exact ⟨_, rfl, .regs _ _⟩
  | jrZE _ => exact ⟨_, rfl, shape_jumpRelativeIf _ _ _⟩
  | addHlHl => exact ⟨_, rfl, .regs _ _⟩
  | ldAAtHlInc => exact ⟨_, rfl, shape_load8_setHl _ _ _ _ _ _⟩
  | decHl => exact ⟨_, rfl, shape_setReg16 _ _ _ _ _⟩
  | incL => exact ⟨_, rfl, shape_incOperand _ _⟩
  | decL => exact ⟨_, rfl, shape_decOperand _ _⟩
  | ldLN _ => exact ⟨_, rfl, shape_setReg8 _ _ _ _ _⟩
  | cplAcc => exact ⟨_, rfl, .regs _ _⟩
  | jrNcE _ => exact ⟨_, rfl, shape_jumpRelativeIf _ _ _⟩
  | ldSpNn _ => exact ⟨_, rfl, shape_setReg16 _ _ _ _ _⟩
  | ldAtHlDecA => exact ⟨_, rfl, shape_store8_setHl _ _ _ _ _ _⟩
  | incSp => exact ⟨_, rfl, shape_setReg16 _ _ _ _ _⟩
  | incAtHl => exact ⟨_, rfl, shape_incOperand _ _⟩
  | decAtHl => exact ⟨_, rfl, shape_decOperand _ _⟩
  | ldAtHlN _ => exact ⟨_, rfl, shape_store8 _ _ _ _ _⟩
  | scf => exact ⟨_, rfl, .regs _ _⟩
  | jrCE _ => exact ⟨_, rfl, shape_jumpRelativeIf _ _ _⟩
  | addHlSp => exact ⟨_, rfl, .regs _ _⟩
  | ldAAtHlDec => exact ⟨_, rfl, shape_load8_setHl _ _ _ _ _ _⟩
  | decSp => exact ⟨_, rfl, shape_setReg16 _ _ _ _ _⟩
  | incA => exact ⟨_, rfl, shape_incOperand _ _⟩
  | decA => exact ⟨_, rfl, shape_decOperand _ _⟩
  | ldAN _ => exact ⟨_, rfl, shape_setReg8 _ _ _ _ _⟩
  | ccf => exact ⟨_, rfl, .regs _ _⟩
  | ldBB => exact ⟨_, rfl, shape_setReg8 _ _ _ _ _⟩
  | ldBC => exact ⟨_, rfl, shape_setReg8 _ _ _ _ _⟩
  | ldBD => exact ⟨_, rfl, shape_setReg8 _ _ _ _ _⟩
  | ldBE => exact ⟨_, rfl, shape_setReg8 _ _ _ _ _⟩
  | ldBH => exact ⟨_, rfl, shape_setReg8 _ _ _ _ _⟩
  | ldBL => exact ⟨_, rfl, shape_setReg8 _ _ _ _ _⟩
  | ldBAtHl => exact ⟨_, rfl, shape_load8 _ _ _ _ _⟩
  | ldBA => exact ⟨_, rfl, shape_setReg8 _ _ _ _ _⟩
  | ldCB => exact ⟨_, rfl, shape_setReg8 _ _ _ _ _⟩
  | ldCC => exact ⟨_, rfl, shape_setReg8 _ _ _ _ _⟩
  | ldCD => exact ⟨_, rfl, shape_setReg8 _ _ _ _ _⟩
  | ldCE => exact ⟨_, rfl, shape_setReg8 _ _ _ _ _⟩
  | ldCH => exact ⟨_, rfl, shape_setReg8 _ _ _ _ _⟩
  | ldCL => exact ⟨_, rfl, shape_setReg8 _ _ _ _ _⟩
  | ldCAtHl => exact ⟨_, rfl, shape_load8 _ _ _ _ _⟩
  | ldCA => exact ⟨_, rfl, shape_setReg8 _ _ _ _ _⟩
  | ldDB => exact ⟨_, rfl, shape_setReg8 _ _ _ _ _⟩
  | ldDC => exact ⟨_, rfl, shape_setReg8 _ _ _ _ _⟩
  | ldDD => exact ⟨_, rfl, shape_setReg8 _ _ _ _ _⟩
  | ldDE => exact ⟨_, rfl, shape_setReg8 _ _ _ _ _⟩
  | ldDH => exact ⟨_, rfl, shape_setReg8 _ _ _ _ _⟩
  | ldDL => exact ⟨_, rfl, shape_setReg8 _ _ _ _ _⟩
  | ldDAtHl => exact ⟨_, rfl, shape_load8 _ _ _ _ _⟩
  | ldDA => exact ⟨_, rfl, shape_setReg8 _ _ _ _ _⟩
  | ldEB => exact ⟨_, rfl, shape_setReg8 _ _ _ _ _⟩
  | ldEC => exact ⟨_, rfl, shape_setReg8 _ _ _ _ _⟩
  | ldED => exact ⟨_, rfl, shape_setReg8 _ _ _ _ _⟩
  | ldEE => exact ⟨_, rfl, shape_setReg8 _ _ _ _ _⟩
  | ldEH => exact ⟨_, rfl, shape_setReg8 _ _ _ _ _⟩
  | ldEL => exact ⟨_, rfl, shape_setReg8 _ _ _ _ _⟩
  | ldEAtHl => exact ⟨_, rfl, shape_load8 _ _ _ _ _⟩
  | ldEA => exact ⟨_, rfl, shape_setReg8 _ _ _ _ _⟩
  | ldHB => exact ⟨_, rfl, shape_setReg8 _ _ _ _ _⟩
  | ldHC => exact ⟨_, rfl, shape_setReg8 _ _ _ _ _⟩
  | ldHD => exact ⟨_, rfl, shape_setReg8 _ _ _ _ _⟩
  | ldHE => exact ⟨_, rfl, shape_setReg8 _ _ _ _ _⟩
  | ldHH => exact ⟨_, rfl, shape_setReg8 _ _ _ _ _⟩
  | ldHL => exact ⟨_, rfl, shape_setReg8 _ _ _ _ _⟩
  | ldHAtHl => exact ⟨_, rfl, shape_load8 _ _ _ _ _⟩
  | ldHA => exact ⟨_, rfl, shape_setReg8 _ _ _ _ _⟩
  | ldLB => exact ⟨_, rfl, shape_setReg8 _ _ _ _ _⟩
  | ldLC => exact ⟨_, rfl, shape_setReg8 _ _ _ _ _⟩
  | ldLD => exact ⟨_, rfl, shape_setReg8 _ _ _ _ _⟩
  | ldLE => exact ⟨_, rfl, shape_setReg8 _ _ _ _ _⟩
  | ldLH => exact ⟨_, rfl, shape_setReg8 _ _ _ _ _⟩
  | ldLL => exact ⟨_, rfl, shape_setReg8 _ _ _ _ _⟩
  | ldLAtHl => exact ⟨_, rfl, shape_load8 _ _ _ _ _⟩
  | ldLA => exact ⟨_, rfl, shape_setReg8 _ _ _ _ _⟩
  | ldAtHlB => exact ⟨_, rfl, shape_store8 _ _ _ _ _⟩
  | ldAtHlC => exact ⟨_, rfl, shape_store8 _ _ _ _ _⟩
  | ldAtHlD => exact ⟨_, rfl, shape_store8 _ _ _ _ _⟩
  | ldAtHlE => exact ⟨_, rfl, shape_store8 _ _ _ _ _⟩
  | ldAtHlH => exact ⟨_, rfl, shape_store8 _ _ _ _ _⟩
  | ldAtHlL => exact ⟨_, rfl, shape_store8 _ _ _ _ _⟩
  | halt => exact ⟨_, rfl, .control _ _ _ _ _ (.inr (.inr rfl)) (.inl rfl)⟩
  | ldAtHlA => exact ⟨_, rfl, shape_store8 _ _ _ _ _⟩
  | ldAB => exact ⟨_, rfl, shape_setReg8 _ _ _ _ _⟩
  | ldAC => exact ⟨_, rfl, shape_setReg8 _ _ _ _ _⟩
  | ldAD => exact ⟨_, rfl, shape_setReg8 _ _ _ _ _⟩
  | ldAE => exact ⟨_, rfl, shape_setReg8 _ _ _ _ _⟩
  | ldAH => exact ⟨_, rfl, shape_setReg8 _ _ _ _ _⟩
  | ldAL => exact ⟨_, rfl, shape_setReg8 _ _ _ _ _⟩
  | ldAAtHl => exact ⟨_, rfl, shape_load8 _ _ _ _ _⟩
  | ldAA => exact ⟨_, rfl, shape_setReg8 _ _ _ _ _⟩
  | addAB => exact ⟨_, rfl, shape_alu _ _ _ _ _⟩
  | addAC => exact ⟨_, rfl, shape_alu _ _ _ _ _⟩
  | addAD => exact ⟨_, rfl, shape_alu _ _ _ _ _⟩
  | addAE => exact ⟨_, rfl, shape_alu _ _ _ _ _⟩
  | addAH => exact ⟨_, rfl, shape_alu _ _ _ _ _⟩
  | addAL => exact ⟨_, rfl, shape_alu _ _ _ _ _⟩
  | addAAtHl => exact ⟨_, rfl, shape_aluAtHl _ _⟩
  | addAA => exact ⟨_, rfl, shape_alu _ _ _ _ _⟩
  | adcAB => exact ⟨_, rfl, shape_alu _ _ _ _ _⟩
  | adcAC => exact ⟨_, rfl, shape_alu _ _ _ _ _⟩
  | adcAD => exact ⟨_, rfl, shape_alu _ _ _ _ _⟩
  | adcAE => exact ⟨_, rfl, shape_alu _ _ _ _ _⟩
  | adcAH => exact ⟨_, rfl, shape_alu _ _ _ _ _⟩
  | adcAL => exact ⟨_, rfl, shape_alu _ _ _ _ _⟩
  | adcAAtHl => exact ⟨_, rfl, shape_aluAtHl _ _⟩
  | adcAA => exact ⟨_, rfl, shape_alu _ _ _ _ _⟩
  | subB => exact ⟨_, rfl, shape_alu _ _ _ _ _⟩
  | subC => exact ⟨_, rfl, shape_alu _ _ _ _ _⟩
  | subD => exact ⟨_, rfl, shape_alu _ _ _ _ _⟩
  | subE => exact ⟨_, rfl, shape_alu _ _ _ _ _⟩
  | subH => exact ⟨_, rfl, shape_alu _ _ _ _ _⟩
  | subL => exact ⟨_, rfl, shape_alu _ _ _ _ _⟩
  | subAtHl => exact ⟨_, rfl, shape_aluAtHl _ _⟩
  | subA => exact ⟨_, rfl, shape_alu _ _ _ _ _⟩
  | sbcAB => exact ⟨_, rfl, shape_alu _ _ _ _ _⟩
  | sbcAC => exact ⟨_, rfl, shape_alu _ _ _ _ _⟩
  | sbcAD => exact ⟨_, rfl, shape_alu _ _ _ _ _⟩
  | sbcAE => exact ⟨_, rfl, shape_alu _ _ _ _ _⟩
  | sbcAH => exact ⟨_, rfl, shape_alu _ _ _ _ _⟩
  | sbcAL => exact ⟨_, rfl, shape_alu _ _ _ _ _⟩
  | sbcAAtHl => exact ⟨_, rfl, shape_aluAtHl _ _⟩
  | sbcAA => exact ⟨_, rfl, shape_alu _ _ _ _ _⟩
  | andB => exact ⟨_, rfl, shape_alu _ _ _ _ _⟩
  | andC => exact ⟨_, rfl, shape_alu _ _ _ _ _⟩
  | andD => exact ⟨_, rfl, shape_alu _ _ _ _ _⟩
  | andE => exact ⟨_, rfl, shape_alu _ _ _ _ _⟩
  | andH => exact ⟨_, rfl, shape_alu _ _ _ _ _⟩
  | andL => exact ⟨_, rfl, shape_alu _ _ _ _ _⟩
  | andAtHl => exact ⟨_, rfl, shape_aluAtHl _ _⟩
  | andA => exact ⟨_, rfl, shape_alu _ _ _ _ _⟩
  | xorB => exact ⟨_, rfl, shape_alu _ _ _ _ _⟩
  | xorC => exact ⟨_, rfl, shape_alu _ _ _ _ _⟩
  | xorD => exact ⟨_, rfl, shape_alu _ _ _ _ _⟩
  | xorE => exact ⟨_, rfl, shape_alu _ _ _ _ _⟩
  | xorH => exact ⟨_, rfl, shape_alu _ _ _ _ _⟩
  | xorL => exact ⟨_, rfl, shape_alu _ _ _ _ _⟩
  | xorAtHl => exact ⟨_, rfl, shape_aluAtHl _ _⟩
  | xorA => exact ⟨_, rfl, shape_alu _ _ _ _ _⟩
  | orB => exact ⟨_, rfl, shape_alu _ _ _ _ _⟩
  | orC => exact ⟨_, rfl, shape_alu _ _ _ _ _⟩
  | orD => exact ⟨_, rfl, shape_alu _ _ _ _ _⟩
  | orE => exact ⟨_, rfl, shape_alu _ _ _ _ _⟩
  | orH => exact ⟨_, rfl, shape_alu _ _ _ _ _⟩
  | orL => exact ⟨_, rfl, shape_alu _ _ _ _ _⟩
  | orAtHl => exact ⟨_, rfl, shape_aluAtHl _ _⟩
  | orA => exact ⟨_, rfl, shape_alu _ _ _ _ _⟩
  | cpB => exact ⟨_, rfl, shape_alu _ _ _ _ _⟩
  | cpC => exact ⟨_, rfl, shape_alu _ _ _ _ _⟩
  | cpD => exact ⟨_, rfl, shape_alu _ _ _ _ _⟩
  | cpE => exact ⟨_, rfl, shape_alu _ _ _ _ _⟩
  | cpH => exact ⟨_, rfl, shape_alu _ _ _ _ _⟩
  | cpL => exact ⟨_, rfl, shape_alu _ _ _ _ _⟩
  | cpAtHl => exact ⟨_, rfl, shape_aluAtHl _ _⟩
  | cpA => exact ⟨_, rfl, shape_alu _ _ _ _ _⟩
  | retNz => exact ⟨_, rfl, shape_returnIf _ _⟩
  | popBc => exact ⟨_, rfl, shape_popReg _ _⟩
  | jpNzNn _ => exact ⟨_, rfl, shape_jumpIf _ _ _⟩
  | jpNn _ => exact ⟨_, rfl, .regs _ _⟩
  | callNzNn _ => exact ⟨_, rfl, shape_callIf _ _ _⟩
  | pushBc => exact ⟨_, rfl, shape_push _ _ _ _⟩
  | addAN _ => exact ⟨_, rfl, shape_alu _ _ _ _ _⟩
  | rst00 => exact ⟨_, rfl, shape_restart _ _⟩
  | retZ => exact ⟨_, rfl, shape_returnIf _ _⟩
  | ret => exact ⟨_, rfl, shape_returnWith _ _⟩
  | jpZNn _ => exact ⟨_, rfl, shape_jumpIf _ _ _⟩
  | prefixCb _ => exact ⟨_, rfl, shape_runCb _ _⟩
  | callZNn _ => exact ⟨_, rfl, shape_callIf _ _ _⟩
  | callNn _ => exact ⟨_, rfl, shape_call _ _⟩
  | adcAN _ => exact ⟨_, rfl, shape_alu _ _ _ _ _⟩
  | rst08 => exact ⟨_, rfl, shape_restart _ _⟩
  | retNc => exact ⟨_, rfl, shape_returnIf _ _⟩
  | popDe => exact ⟨_, rfl, shape_popReg _ _⟩
  | jpNcNn _ => exact ⟨_, rfl, shape_jumpIf _ _ _⟩
  | illegalD3 => exact ⟨_, rfl, .fatal _ _⟩
  | callNcNn _ => exact ⟨_, rfl, shape_callIf _ _ _⟩
  | pushDe => exact ⟨_, rfl, shape_push _ _ _ _⟩
  | subN _ => exact ⟨_, rfl, shape_alu _ _ _ _ _⟩
  | rst10 => exact ⟨_, rfl, shape_restart _ _⟩
  | retC => exact ⟨_, rfl, shape_returnIf _ _⟩
  | reti => exact ⟨_, rfl, shape_reti _ _⟩
  | jpCNn _ => exact ⟨_, rfl, shape_jumpIf _ _ _⟩
  | illegalDB => exact ⟨_, rfl, .fatal _ _⟩
  | callCNn _ => exact ⟨_, rfl, shape_callIf _ _ _⟩
  | illegalDD => exact ⟨_, rfl, .fatal _ _⟩
  | sbcAN _ => exact ⟨_, rfl, shape_alu _ _ _ _ _⟩
  | rst18 => exact ⟨_, rfl, shape_restart _ _⟩
  | ldhAtNA _ => exact ⟨_, rfl, shape_store8 _ _ _ _ _⟩
  | popHl => exact ⟨_, rfl, shape_popReg _ _⟩
  | ldhAtCA => exact ⟨_, rfl, shape_store8 _ _ _ _ _⟩
  | illegalE3 => exact ⟨_, rfl, .fatal _ _⟩
  | illegalE4 => exact ⟨_, rfl, .fatal _ _⟩
  | pushHl => exact ⟨_, rfl, shape_push _ _ _ _⟩
  | andN _ => exact ⟨_, rfl, shape_alu _ _ _ _ _⟩
  | rst20 => exact ⟨_, rfl, shape_restart _ _⟩
  | addSpE _ => exact ⟨_, rfl, .regs _ _⟩
  | jpHl => exact ⟨_, rfl, .regs _ _⟩
  | ldAtNnA _ => exact ⟨_, rfl, shape_store8 _ _ _ _ _⟩
  | illegalEB => exact ⟨_, rfl, .fatal _ _⟩
  | illegalEC => exact ⟨_, rfl, .fatal _ _⟩
  | illegalED => exact ⟨_, rfl, .fatal _ _⟩
  | xorN _ => exact ⟨_, rfl, shape_alu _ _ _ _ _⟩
  | rst28 => exact ⟨_, rfl, shape_restart _ _⟩
  | ldhAAtN _ => exact ⟨_, rfl, shape_load8 _ _ _ _ _⟩
  | popAf => exact ⟨_, rfl, shape_popReg _ _⟩
  | ldhAAtC => exact ⟨_, rfl, shape_load8 _ _ _ _ _⟩
  | di => exact ⟨_, rfl, .control _ _ _ _ _ (.inl rfl) (.inr rfl)⟩
  | illegalF4 => exact ⟨_, rfl, .fatal _ _⟩
  | pushAf => exact ⟨_, rfl, shape_push _ _ _ _⟩
  | orN _ => exact ⟨_, rfl, shape_alu _ _ _ _ _⟩
  | rst30 => exact ⟨_, rfl, shape_restart _ _⟩
  | ldHlSpE _ => exact ⟨_, rfl, .regs _ _⟩
  | ldSpHl => exact ⟨_, rfl, .regs _ _⟩
  | ldAAtNn _ => exact ⟨_, rfl, shape_load8 _ _ _ _ _⟩
  | ei => exact ⟨_, rfl, .control _ _ _ _ _ (by by_cases h : s.eiDelay = 0 <;> simp [h]) (.inl rfl)⟩
  | illegalFC => exact ⟨_, rfl, .fatal _ _⟩
  | illegalFD => exact ⟨_, rfl, .fatal _ _⟩
  | cpN _ => exact ⟨_, rfl, shape_alu _ _ _ _ _⟩
  | rst38 => exact ⟨_, rfl, shape_restart _ _⟩
  | rlcB => exact ⟨_, rfl, shape_rotateOperand _ _ _⟩
  | rlcC => exact ⟨_, rfl, shape_rotateOperand _ _ _⟩
  | rlcD => exact ⟨_, rfl, shape_rotateOperand _ _ _⟩
  | rlcE => exact ⟨_, rfl, shape_rotateOperand _ _ _⟩
  | rlcH => exact ⟨_, rfl, shape_rotateOperand _ _ _⟩
  | rlcL => exact ⟨_, rfl, shape_rotateOperand _ _ _⟩
  | rlcAtHl => exact ⟨_, rfl, shape_rotateOperand _ _ _⟩
  | rlcA => exact ⟨_, rfl, shape_rotateOperand _ _ _⟩
  | rrcB => exact ⟨_, rfl, shape_rotateOperand _ _ _⟩
  | rrcC => exact ⟨_, rfl, shape_rotateOperand _ _ _⟩
  | rrcD => exact ⟨_, rfl, shape_rotateOperand _ _ _⟩
  | rrcE => exact ⟨_, rfl, shape_rotateOperand _ _ _⟩
  | rrcH => exact ⟨_, rfl, shape_rotateOperand _ _ _⟩
  | rrcL => exact ⟨_, rfl, shape_rotateOperand _ _ _⟩
  | rrcAtHl => exact ⟨_, rfl, shape_rotateOperand _ _ _⟩
  | rrcA => exact ⟨_, rfl, shape_rotateOperand _ _ _⟩
  | rlB => exact ⟨_, rfl, shape_rotateOperand _ _ _⟩
  | rlC => exact ⟨_, rfl, shape_rotateOperand _ _ _⟩
  | rlD => exact ⟨_, rfl, shape_rotateOperand _ _ _⟩
  | rlE => exact ⟨_, rfl, shape_rotateOperand _ _ _⟩
  | rlH => exact ⟨_, rfl, shape_rotateOperand _ _ _⟩
  | rlL => exact ⟨_, rfl, shape_rotateOperand _ _ _⟩
  | rlAtHl => exact ⟨_, rfl, shape_rotateOperand _ _ _⟩
  | rlA => exact ⟨_, rfl, shape_rotateOperand _ _ _⟩
  | rrB => exact ⟨_, rfl, shape_rotateOperand _ _ _⟩
  | rrC => exact ⟨_, rfl, shape_rotateOperand _ _ _⟩
  | rrD => exact ⟨_, rfl, shape_rotateOperand _ _ _⟩
  | rrE => exact ⟨_, rfl, shape_rotateOperand _ _ _⟩
  | rrH => exact ⟨_, rfl, shape_rotateOperand _ _ _⟩
  | rrL => exact ⟨_, rfl, shape_rotateOperand _ _ _⟩
  | rrAtHl => exact ⟨_, rfl, shape_rotateOperand _ _ _⟩
  | rrA => exact ⟨_, rfl, shape_rotateOperand _ _ _⟩
  | slaB => exact ⟨_, rfl, shape_rotateOperand _ _ _⟩
  | slaC => exact ⟨_, rfl, shape_rotateOperand _ _ _⟩
  | slaD => exact ⟨_, rfl, shape_rotateOperand _ _ _⟩
  | slaE => exact ⟨_, rfl, shape_rotateOperand _ _ _⟩
  | slaH => exact ⟨_, rfl, shape_rotateOperand _ _ _⟩
  | slaL => exact ⟨_, rfl, shape_rotateOperand _ _ _⟩
  | slaAtHl => exact ⟨_, rfl, shape_rotateOperand _ _ _⟩
  | slaA => exact ⟨_, rfl, shape_rotateOperand _ _ _⟩
  | sraB => exact ⟨_, rfl, shape_rotateOperand _ _ _⟩
  | sraC => exact ⟨_, rfl, shape_rotateOperand _ _ _⟩
  | sraD => exact ⟨_, rfl, shape_rotateOperand _ _ _⟩
  | sraE => exact ⟨_, rfl, shape_rotateOperand _ _ _⟩
  | sraH => exact ⟨_, rfl, shape_rotateOperand _ _ _⟩
  | sraL => exact ⟨_, rfl, shape_rotateOperand _ _ _⟩
  | sraAtHl => exact ⟨_, rfl, shape_rotateOperand _ _ _⟩
  | sraA => exact ⟨_, rfl, shape_rotateOperand _ _ _⟩
  | swapB => exact ⟨_, rfl, shape_rotateOperand _ _ _⟩
  | swapC => exact ⟨_, rfl, shape_rotateOperand _ _ _⟩
  | swapD => exact ⟨_, rfl, shape_rotateOperand _ _ _⟩
  | swapE => exact ⟨_, rfl, shape_rotateOperand _ _ _⟩
  | swapH => exact ⟨_, rfl, shape_rotateOperand _ _ _⟩
  | swapL => exact ⟨_, rfl, shape_rotateOperand _ _ _⟩
  | swapAtHl => exact ⟨_, rfl, shape_rotateOperand _ _ _⟩
  | swapA => exact ⟨_, rfl, shape_rotateOperand _ _ _⟩
  | srlB => exact ⟨_, rfl, shape_rotateOperand _ _ _⟩
  | srlC => exact ⟨_, rfl, shape_rotateOperand _ _ _⟩
  | srlD => exact ⟨_, rfl, shape_rotateOperand _ _ _⟩
  | srlE => exact ⟨_, rfl, shape_rotateOperand _ _ _⟩
  | srlH => exact ⟨_, rfl, shape_rotateOperand _ _ _⟩
  | srlL => exact ⟨_, rfl, shape_rotateOperand _ _ _⟩
  | srlAtHl => exact ⟨_, rfl, shape_rotateOperand _ _ _⟩
  | srlA => exact ⟨_, rfl, shape_rotateOperand _ _ _⟩
  | bit0B => exact ⟨_, rfl, shape_testBit _ _ _⟩
  | bit0C => exact ⟨_, rfl, shape_testBit _ _ _⟩
  | bit0D => exact ⟨_, rfl, shape_testBit _ _ _⟩
  | bit0E => exact ⟨_, rfl, shape_testBit _ _ _⟩
  | bit0H => exact ⟨_, rfl, shape_testBit _ _ _⟩
  | bit0L => exact ⟨_, rfl, shape_testBit _ _ _⟩
  | bit0AtHl => exact ⟨_, rfl, shape_testBit _ _ _⟩
  | bit0A => exact ⟨_, rfl, shape_testBit _ _ _⟩
  | bit1B => exact ⟨_, rfl, shape_testBit _ _ _⟩
  | bit1C => exact ⟨_, rfl, shape_testBit _ _ _⟩
  | bit1D => exact ⟨_, rfl, shape_testBit _ _ _⟩
  | bit1E => exact ⟨_, rfl, shape_testBit _ _ _⟩
  | bit1H => exact ⟨_, rfl, shape_testBit _ _ _⟩
  | bit1L => exact ⟨_, rfl, shape_testBit _ _ _⟩
  | bit1AtHl => exact ⟨_, rfl, shape_testBit _ _ _⟩
  | bit1A => exact ⟨_, rfl, shape_testBit _ _ _⟩
  | bit2B => exact ⟨_, rfl, shape_testBit _ _ _⟩
  | bit2C => exact ⟨_, rfl, shape_testBit _ _ _⟩
  | bit2D => exact ⟨_, rfl, shape_testBit _ _ _⟩
  | bit2E => exact ⟨_, rfl, shape_testBit _ _ _⟩
  | bit2H => exact ⟨_, rfl, shape_testBit _ _ _⟩
  | bit2L => exact ⟨_, rfl, shape_testBit _ _ _⟩
  | bit2AtHl => exact ⟨_, rfl, shape_testBit _ _ _⟩
  | bit2A => exact ⟨_, rfl, shape_testBit _ _ _⟩
  | bit3B => exact ⟨_, rfl, shape_testBit _ _ _⟩
  | bit3C => exact ⟨_, rfl, shape_testBit _ _ _⟩
  | bit3D => exact ⟨_, rfl, shape_testBit _ _ _⟩
  | bit3E => exact ⟨_, rfl, shape_testBit _ _ _⟩
  | bit3H => exact ⟨_, rfl, shape_testBit _ _ _⟩
  | bit3L => exact ⟨_, rfl, shape_testBit _ _ _⟩
  | bit3AtHl => exact ⟨_, rfl, shape_testBit _ _ _⟩
  | bit3A => exact ⟨_, rfl, shape_testBit _ _ _⟩
  | bit4B => exact ⟨_, rfl, shape_testBit _ _ _⟩
  | bit4C => exact ⟨_, rfl, shape_testBit _ _ _⟩
  | bit4D => exact ⟨_, rfl, shape_testBit _ _ _⟩
  | bit4E => exact ⟨_, rfl, shape_testBit _ _ _⟩
  | bit4H => exact ⟨_, rfl, shape_testBit _ _ _⟩
  | bit4L => exact ⟨_, rfl, shape_testBit _ _ _⟩
  | bit4AtHl => exact ⟨_, rfl, shape_testBit _ _ _⟩
  | bit4A => exact ⟨_, rfl, shape_testBit _ _ _⟩
  | bit5B => exact ⟨_, rfl, shape_testBit _ _ _⟩
  | bit5C => exact ⟨_, rfl, shape_testBit _ _ _⟩
  | bit5D => exact ⟨_, rfl, shape_testBit _ _ _⟩
  | bit5E => exact ⟨_, rfl, shape_testBit _ _ _⟩
  | bit5H => exact ⟨_, rfl, shape_testBit _ _ _⟩
  | bit5L => exact ⟨_, rfl, shape_testBit _ _ _⟩
  | bit5AtHl => exact ⟨_, rfl, shape_testBit _ _ _⟩
  | bit5A => exact ⟨_, rfl, shape_testBit _ _ _⟩
  | bit6B => exact ⟨_, rfl, shape_testBit _ _ _⟩
  | bit6C => exact ⟨_, rfl, shape_testBit _ _ _⟩
  | bit6D => exact ⟨_, rfl, shape_testBit _ _ _⟩
  | bit6E => exact ⟨_, rfl, shape_testBit _ _ _⟩
  | bit6H => exact ⟨_, rfl, shape_testBit _ _ _⟩
  | bit6L => exact ⟨_, rfl, shape_testBit _ _ _⟩
  | bit6AtHl => exact ⟨_, rfl, shape_testBit _ _ _⟩
  | bit6A => exact ⟨_, rfl, shape_testBit _ _ _⟩
  | bit7B => exact ⟨_, rfl, shape_testBit _ _ _⟩
  | bit7C => exact ⟨_, rfl, shape_testBit _ _ _⟩
  | bit7D => exact ⟨_, rfl, shape_testBit _ _ _⟩
  | bit7E => exact ⟨_, rfl, shape_testBit _ _ _⟩
  | bit7H => exact ⟨_, rfl, shape_testBit _ _ _⟩
  | bit7L => exact ⟨_, rfl, shape_testBit _ _ _⟩
  | bit7AtHl => exact ⟨_, rfl, shape_testBit _ _ _⟩
  | bit7A => exact ⟨_, rfl, shape_testBit _ _ _⟩
  | res0B => exact ⟨_, rfl, shape_resetBit _ _ _⟩
  | res0C => exact ⟨_, rfl, shape_resetBit _ _ _⟩
  | res0D => exact ⟨_, rfl, shape_resetBit _ _ _⟩
  | res0E => exact ⟨_, rfl, shape_resetBit _ _ _⟩
  | res0H => exact ⟨_, rfl, shape_resetBit _ _ _⟩
  | res0L => exact ⟨_, rfl, shape_resetBit _ _ _⟩
  | res0AtHl => exact ⟨_, rfl, shape_resetBit _ _ _⟩
  | res0A => exact ⟨_, rfl, shape_resetBit _ _ _⟩
  | res1B => exact ⟨_, rfl, shape_resetBit _ _ _⟩
  | res1C => exact ⟨_, rfl, shape_resetBit _ _ _⟩
  | res1D => exact ⟨_, rfl, shape_resetBit _ _ _⟩
  | res1E => exact ⟨_, rfl, shape_resetBit _ _ _⟩
  | res1H => exact ⟨_, rfl, shape_resetBit _ _ _⟩
  | res1L => exact ⟨_, rfl, shape_resetBit _ _ _⟩
  | res1AtHl => exact ⟨_, rfl, shape_resetBit _ _ _⟩
  | res1A => exact ⟨_, rfl, shape_resetBit _ _ _⟩
  | res2B => exact ⟨_, rfl, shape_resetBit _ _ _⟩
  | res2C => exact ⟨_, rfl, shape_resetBit _ _ _⟩
  | res2D => exact ⟨_, rfl, shape_resetBit _ _ _⟩
  | res2E => exact ⟨_, rfl, shape_resetBit _ _ _⟩
  | res2H => exact ⟨_, rfl, shape_resetBit _ _ _⟩
  | res2L => exact ⟨_, rfl, shape_resetBit _ _ _⟩
  | res2AtHl => exact ⟨_, rfl, shape_resetBit _ _ _⟩
  | res2A => exact ⟨_, rfl, shape_resetBit _ _ _⟩
  | res3B => exact ⟨_, rfl, shape_resetBit _ _ _⟩
  | res3C => exact ⟨_, rfl, shape_resetBit _ _ _⟩
  | res3D => exact ⟨_, rfl, shape_resetBit _ _ _⟩
  | res3E => exact ⟨_, rfl, shape_resetBit _ _ _⟩
  | res3H => exact ⟨_, rfl, shape_resetBit _ _ _⟩
  | res3L => exact ⟨_, rfl, shape_resetBit _ _ _⟩
  | res3AtHl => exact ⟨_, rfl, shape_resetBit _ _ _⟩
  | res3A => exact ⟨_, rfl, shape_resetBit _ _ _⟩
  | res4B => exact ⟨_, rfl, shape_resetBit _ _ _⟩
  | res4C => exact ⟨_, rfl, shape_resetBit _ _ _⟩
  | res4D => exact ⟨_, rfl, shape_resetBit _ _ _⟩
  | res4E => exact ⟨_, rfl, shape_resetBit _ _ _⟩
  | res4H => exact ⟨_, rfl, shape_resetBit _ _ _⟩
  | res4L => exact ⟨_, rfl, shape_resetBit _ _ _⟩
  | res4AtHl => exact ⟨_, rfl, shape_resetBit _ _ _⟩
  | res4A => exact ⟨_, rfl, shape_resetBit _ _ _⟩
  | res5B => exact ⟨_, rfl, shape_resetBit _ _ _⟩
  | res5C => exact ⟨_, rfl, shape_resetBit _ _ _⟩
  | res5D => exact ⟨_, rfl, shape_resetBit _ _ _⟩
  | res5E => exact ⟨_, rfl, shape_resetBit _ _ _⟩
  | res5H => exact ⟨_, rfl, shape_resetBit _ _ _⟩
  | res5L => exact ⟨_, rfl, shape_resetBit _ _ _⟩
  | res5AtHl => exact ⟨_, rfl, shape_resetBit _ _ _⟩
  | res5A => exact ⟨_, rfl, shape_resetBit _ _ _⟩
  | res6B => exact ⟨_, rfl, shape_resetBit _ _ _⟩
  | res6C => exact ⟨_, rfl, shape_resetBit _ _ _⟩
  | res6D => exact ⟨_, rfl, shape_resetBit _ _ _⟩
  | res6E => exact ⟨_, rfl, shape_resetBit _ _ _⟩
  | res6H => exact ⟨_, rfl, shape_resetBit _ _ _⟩
  | res6L => exact ⟨_, rfl, shape_resetBit _ _ _⟩
  | res6AtHl => exact ⟨_, rfl, shape_resetBit _ _ _⟩
  | res6A => exact ⟨_, rfl, shape_resetBit _ _ _⟩
  | res7B => exact ⟨_, rfl, shape_resetBit _ _ _⟩
  | res7C => exact ⟨_, rfl, shape_resetBit _ _ _⟩
  | res7D => exact ⟨_, rfl, shape_resetBit _ _ _⟩
  | res7E => exact ⟨_, rfl, shape_resetBit _ _ _⟩
  | res7H => exact ⟨_, rfl, shape_resetBit _ _ _⟩
  | res7L => exact ⟨_, rfl, shape_resetBit _ _ _⟩
  | res7AtHl => exact ⟨_, rfl, shape_resetBit _ _ _⟩
  | res7A => exact ⟨_, rfl, shape_resetBit _ _ _⟩
  | set0B => exact ⟨_, rfl, shape_assignBit _ _ _⟩
  | set0C => exact ⟨_, rfl, shape_assignBit _ _ _⟩
  | set0D => exact ⟨_, rfl, shape_assignBit _ _ _⟩
  | set0E => exact ⟨_, rfl, shape_assignBit _ _ _⟩
  | set0H => exact ⟨_, rfl, shape_assignBit _ _ _⟩
  | set0L => exact ⟨_, rfl, shape_assignBit _ _ _⟩
  | set0AtHl => exact ⟨_, rfl, shape_assignBit _ _ _⟩
  | set0A => exact ⟨_, rfl, shape_assignBit _ _ _⟩
  | set1B => exact ⟨_, rfl, shape_assignBit _ _ _⟩
  | set1C => exact ⟨_, rfl, shape_assignBit _ _ _⟩
  | set1D => exact ⟨_, rfl, shape_assignBit _ _ _⟩
  | set1E => exact ⟨_, rfl, shape_assignBit _ _ _⟩
  | set1H => exact ⟨_, rfl, shape_assignBit _ _ _⟩
  | set1L => exact ⟨_, rfl, shape_assignBit _ _ _⟩
  | set1AtHl => exact ⟨_, rfl, shape_assignBit _ _ _⟩
  | set1A => exact ⟨_, rfl, shape_assignBit _ _ _⟩
  | set2B => exact ⟨_, rfl, shape_assignBit _ _ _⟩
  | set2C => exact ⟨_, rfl, shape_assignBit _ _ _⟩
  | set2D => exact ⟨_, rfl, shape_assignBit _ _ _⟩
  | set2E => exact ⟨_, rfl, shape_assignBit _ _ _⟩
  | set2H => exact ⟨_, rfl, shape_assignBit _ _ _⟩
  | set2L => exact ⟨_, rfl, shape_assignBit _ _ _⟩
  | set2AtHl => exact ⟨_, rfl, shape_assignBit _ _ _⟩
  | set2A => exact ⟨_, rfl, shape_assignBit _ _ _⟩
  | set3B => exact ⟨_, rfl, shape_assignBit _ _ _⟩
  | set3C => exact ⟨_, rfl, shape_assignBit _ _ _⟩
  | set3D => exact ⟨_, rfl, shape_assignBit _ _ _⟩
  | set3E => exact ⟨_, rfl, shape_assignBit _ _ _⟩
  | set3H => exact ⟨_, rfl, shape_assignBit _ _ _⟩
  | set3L => exact ⟨_, rfl, shape_assignBit _ _ _⟩
  | set3AtHl => exact ⟨_, rfl, shape_assignBit _ _ _⟩
  | set3A => exact ⟨_, rfl, shape_assignBit _ _ _⟩
  | set4B => exact ⟨_, rfl, shape_assignBit _ _ _⟩
  | set4C => exact ⟨_, rfl, shape_assignBit _ _ _⟩
  | set4D => exact ⟨_, rfl, shape_assignBit _ _ _⟩
  | set4E => exact ⟨_, rfl, shape_assignBit _ _ _⟩
  | set4H => exact ⟨_, rfl, shape_assignBit _ _ _⟩
  | set4L => exact ⟨_, rfl, shape_assignBit _ _ _⟩
  | set4AtHl => exact ⟨_, rfl, shape_assignBit _ _ _⟩
  | set4A => exact ⟨_, rfl, shape_assignBit _ _ _⟩
  | set5B => exact ⟨_, rfl, shape_assignBit _ _ _⟩
  | set5C => exact ⟨_, rfl, shape_assignBit _ _ _⟩
  | set5D => exact ⟨_, rfl, shape_assignBit _ _ _⟩
  | set5E => exact ⟨_, rfl, shape_assignBit _ _ _⟩
  | set5H => exact ⟨_, rfl, shape_assignBit _ _ _⟩
  | set5L => exact ⟨_, rfl, shape_assignBit _ _ _⟩
  | set5AtHl => exact ⟨_, rfl, shape_assignBit _ _ _⟩
  | set5A => exact ⟨_, rfl, shape_assignBit _ _ _⟩
  | set6B => exact ⟨_, rfl, shape_assignBit _ _ _⟩
  | set6C => exact ⟨_, rfl, shape_assignBit _ _ _⟩
  | set6D => exact ⟨_, rfl, shape_assignBit _ _ _⟩
  | set6E => exact ⟨_, rfl, shape_assignBit _ _ _⟩
  | set6H => exact ⟨_, rfl, shape_assignBit _ _ _⟩
  | set6L => exact ⟨_, rfl, shape_assignBit _ _ _⟩
  | set6AtHl => exact ⟨_, rfl, shape_assignBit _ _ _⟩
  | set6A => exact ⟨_, rfl, shape_assignBit _ _ _⟩
  | set7B => exact ⟨_, rfl, shape_assignBit _ _ _⟩
  | set7C => exact ⟨_, rfl, shape_assignBit _ _ _⟩
  | set7D => exact ⟨_, rfl, shape_assignBit _ _ _⟩
  | set7E => exact ⟨_, rfl, shape_assignBit _ _ _⟩
  | set7H => exact ⟨_, rfl, shape_assignBit _ _ _⟩
  | set7L => exact ⟨_, rfl, shape_assignBit _ _ _⟩
  | set7AtHl => exact ⟨_, rfl, shape_assignBit _ _ _⟩
  | set7A => exact ⟨_, rfl, shape_assignBit _ _ _⟩

/-- Every instruction keeps the invariant of the inside of a step. -/
theorem Shape.midInv {s t : State} (hs : s.MidInv) (h : Shape s t) : t.MidInv := by
  cases h with
  | regs r n => exact hs
  | read a u h r n =>
    subst h
    exact State.afterRead_midInv hs a
  | read2 a b u h r n =>
    subst h
    exact State.afterRead_midInv (State.afterRead_midInv hs a) b
  | write a v u h r n =>
    subst h
    exact State.writeByte_midInv hs a v
  | write2 a v b w u h r n =>
    subst h
    exact State.writeByte_midInv (State.writeByte_midInv hs a v) b w
  | readWrite a v u h r n =>
    subst h
    exact State.writeByte_midInv (State.afterRead_midInv hs a) a v
  | control r n ime halted eiDelay h hi =>
    obtain ⟨h1, h2, h3, h4, h5, h6, h7⟩ := hs
    refine ⟨h1, h2, h3, h4, h5, ?_, h7⟩
    rcases h with rfl | rfl | rfl
    · exact Nat.zero_le _
    · exact Nat.le_refl _
    · exact h6
  | reti a b u h r n =>
    subst h
    exact State.afterRead_midInv (State.afterRead_midInv hs a) b
  | fatal kind opcode => exact (State.raiseFatal_midInv s kind opcode).mpr hs

end Sys2Proof.Machine
end

