-- ==== Sys2Proof/Laws/Flags.lean ====
section
/-! SUPPORT. The flag and result computations of Machine/Flags.lean said over bit vectors, as the rules write them: what an adder
answers, what a zero test is, and what a mask of low bits is as a number. -/

namespace Sys2Proof.Machine

theorem toNat_lowNibble (v : Byte) : (v &&& 0x0F).toNat = v.toNat % 16 := by
  rw [BitVec.toNat_and]; exact Nat.and_two_pow_sub_one_eq_mod v.toNat 4

theorem toNat_lowNibble16 (v : Word) : (v &&& 0x000F).toNat = v.toNat % 16 := by
  rw [BitVec.toNat_and]; exact Nat.and_two_pow_sub_one_eq_mod v.toNat 4

theorem toNat_lowByte16 (v : Word) : (v &&& 0x00FF).toNat = v.toNat % 256 := by
  rw [BitVec.toNat_and]; exact Nat.and_two_pow_sub_one_eq_mod v.toNat 8

theorem toNat_lowTwelve16 (v : Word) : (v &&& 0x0FFF).toNat = v.toNat % 4096 := by
  rw [BitVec.toNat_and]; exact Nat.and_two_pow_sub_one_eq_mod v.toNat 12

theorem isZero_eq (v : Byte) : isZero v = decide (v = 0) := by simp [isZero, BEq.beq]

/-- What Add8 answers (R200). -/
theorem add8_eq (a b : Byte) (cin : Bool) :
    add8 a b cin =
      { r := a + b + (if cin then 1 else 0)
        h := decide ((a &&& 0x0F).toNat + (b &&& 0x0F).toNat + cin.toNat > 0x0F)
        c := decide (a.toNat + b.toNat + cin.toNat > 0xFF) } := by
  simp only [add8, toNat_lowNibble, AdderResult.mk.injEq, and_true]
  apply BitVec.eq_of_toNat_eq
  cases cin <;> simp

/-- What Sub8 answers (R200). -/
theorem sub8_eq (a b : Byte) (cin : Bool) :
    sub8 a b cin =
      { r := a - b - (if cin then 1 else 0)
        h := decide ((a &&& 0x0F).toNat < (b &&& 0x0F).toNat + cin.toNat)
        c := decide (a.toNat < b.toNat + cin.toNat) } := by
  simp only [sub8, toNat_lowNibble, AdderResult.mk.injEq, and_true]
  apply BitVec.eq_of_toNat_eq
  have := a.isLt
  have := b.isLt
  cases cin <;> simp [BitVec.toNat_sub, BitVec.toNat_ofInt] <;> omega

/-- Adding a sign-extended byte is integer addition, narrowed (R243, R304). -/
theorem add_sext16 (v : Word) (e : Byte) : v + sext16 e = BitVec.ofInt 16 (v.toNat + e.toInt) := by
  rw [BitVec.ofInt_add, BitVec.ofInt_natCast, BitVec.ofNat_toNat, BitVec.setWidth_eq]
  rfl

end Sys2Proof.Machine
end

