-- ==== Sys2Proof/Laws/Load.lean ====
section
/-! SUPPORT. What cartridge load (R453) answers. -/

namespace Sys2Proof.Machine

/-- `State.reset` is the state that `load` creates for its arguments (notes/assumptions/3.md). -/
theorem load_reset :
    load (List.replicate 0x8000 0) (List.replicate 0x100 0) { vram := [], wram := [], oam := [], hram := [], eram := [] } =
      .ok State.reset := by
  have hget : ∀ k, (List.replicate 0x8000 (0 : Byte)).getD k 0 = 0 := by
    intro k
    simp only [List.getD_eq_getElem?_getD, List.getElem?_replicate]
    split <;> rfl
  have hsel : selectController 0 = some .direct := by decide
  have hrom : romBanksOf 0 = some 2 := by decide
  have hram : ramSizeOf 0 = some 0 := by decide
  unfold load
  simp only [hget, List.length_replicate, Memory.ofBytes_zeros, hsel, hrom, hram]
  rfl

/-- The ROM bank counts that R85 names. -/
theorem romBanksOf_mem {code : Byte} {n : Nat} (h : romBanksOf code = some n) :
    n ∈ [2, 4, 8, 16, 32, 64, 128, 256, 512] := by
  unfold romBanksOf at h
  split at h
  · rename_i hc
    generalize code.toNat = k at h hc
    interval_cases k <;> simp at h <;> simp [← h]
  · simp at h

/-- The RAM sizes that R85 names. -/
theorem ramSizeOf_mem {code : Byte} {n : Nat} (h : ramSizeOf code = some n) :
    n ∈ [0, 0x800, 0x2000, 0x8000, 0x20000, 0x10000] := by
  unfold ramSizeOf at h
  split at h <;> simp at h <;> simp [← h]

end Sys2Proof.Machine
end

