-- ==== Sys2Proof/Laws/Map.lean ====
section
/-! SUPPORT. Which row of the map of R60 and R61 holds an address, one lemma per row. -/

namespace Sys2Proof.Machine

theorem regionOf_rom {a : Word} (h : a.toNat < 0x8000) : regionOf a = .rom a.toNat := by
  unfold regionOf
  rw [if_pos h]

theorem regionOf_vram {a : Word} (h : 0x8000 ≤ a.toNat) (h' : a.toNat ≤ 0x9FFF) :
    regionOf a = .vram (a.toNat - 0x8000) := by
  unfold regionOf
  rw [if_neg (by omega), if_pos (by omega)]

theorem regionOf_eram {a : Word} (h : 0xA000 ≤ a.toNat) (h' : a.toNat ≤ 0xBFFF) :
    regionOf a = .eram (a.toNat - 0xA000) := by
  unfold regionOf
  iterate 2 rw [if_neg (by omega)]
  rw [if_pos (by omega)]

theorem regionOf_wram {a : Word} (h : 0xC000 ≤ a.toNat) (h' : a.toNat ≤ 0xDFFF) :
    regionOf a = .wram (a.toNat - 0xC000) := by
  unfold regionOf
  iterate 3 rw [if_neg (by omega)]
  rw [if_pos (by omega)]

theorem regionOf_echo {a : Word} (h : 0xE000 ≤ a.toNat) (h' : a.toNat ≤ 0xFDFF) :
    regionOf a = .wram (a.toNat - 0xE000) := by
  unfold regionOf
  iterate 4 rw [if_neg (by omega)]
  rw [if_pos (by omega)]

theorem regionOf_oam {a : Word} (h : 0xFE00 ≤ a.toNat) (h' : a.toNat ≤ 0xFE9F) :
    regionOf a = .oam (a.toNat - 0xFE00) := by
  unfold regionOf
  iterate 5 rw [if_neg (by omega)]
  rw [if_pos (by omega)]

theorem regionOf_unusable {a : Word} (h : 0xFEA0 ≤ a.toNat) (h' : a.toNat ≤ 0xFEFF) : regionOf a = .unusable := by
  unfold regionOf
  iterate 6 rw [if_neg (by omega)]
  rw [if_pos (by omega)]

theorem regionOf_io {a : Word} (h : 0xFF00 ≤ a.toNat) (h' : a.toNat ≤ 0xFF7F) :
    regionOf a = .io (ioRegAt (a.toNat - 0xFF00)) := by
  unfold regionOf
  iterate 7 rw [if_neg (by omega)]
  rw [if_pos (by omega)]

theorem regionOf_hram {a : Word} (h : 0xFF80 ≤ a.toNat) (h' : a.toNat ≤ 0xFFFE) :
    regionOf a = .hram (a.toNat - 0xFF80) := by
  unfold regionOf
  iterate 8 rw [if_neg (by omega)]
  rw [if_pos (by omega)]

/-- The byte a read of external RAM gives, the state after it, and what a write there does, by what it reaches (R77). -/
theorem State.eram_access (s : State) {a : Word} (h : 0xA000 ≤ a.toNat) (h' : a.toNat ≤ 0xBFFF) (v : Byte) :
    s.readByte a = s.readEram (a.toNat - 0xA000) ∧ s.writeByte a v = s.writeEram (a.toNat - 0xA000) v ∧
      s.afterRead a =
        if s.cart.eramAccess (a.toNat - 0xA000) == .unmodelled then { s with draws := s.draws + 1 } else s := by
  unfold State.readByte State.writeByte State.afterRead
  rw [regionOf_eram h h']
  exact ⟨rfl, rfl, rfl⟩

/-- The stored bits of STAT, as a read of 0xFF41 shows them (R45). -/
theorem State.readByte_stat (s : State) : s.readByte 0xFF41 = s.ppu.statByte := by
  unfold State.readByte
  rw [show regionOf 0xFF41 = .io .stat by simp [regionOf, ioRegAt]]
  rfl

theorem Ppu.statByte_bits (p : Ppu) (k : Nat) (hk : k < 5) : p.statByte.getLsbD (k + 3) = p.stat.getLsbD k := by
  unfold Ppu.statByte
  rw [BitVec.getLsbD_append, BitVec.getLsbD_append, if_neg (by omega), if_neg (by omega)]
  congr 1

end Sys2Proof.Machine
end

