-- ==== Sys2Proof/Laws/PerInstr.lean ====
section
/-! SUPPORT. The statement family `EncodingLength`: an instruction is as long as its first byte alone says (R120, R121), one lemma per
constructor of `Instr`. -/

namespace Sys2Proof.Laws.EncodingLength

/-- The encoding of `i` starts with an opcode byte, and its length in bytes is the one that byte determines (R120). -/
def Statement (i : Instr) : Prop :=
  ∃ op rest, encode i = op :: rest ∧ (encode i).length = instrLength op

theorem nop : Statement .nop := ⟨_, _, rfl, rfl⟩
theorem ldBcNn (nn : Word) : Statement (.ldBcNn nn) := ⟨_, _, rfl, rfl⟩
theorem ldAtBcA : Statement .ldAtBcA := ⟨_, _, rfl, rfl⟩
theorem incBc : Statement .incBc := ⟨_, _, rfl, rfl⟩
theorem incB : Statement .incB := ⟨_, _, rfl, rfl⟩
theorem decB : Statement .decB := ⟨_, _, rfl, rfl⟩
theorem ldBN (n : Byte) : Statement (.ldBN n) := ⟨_, _, rfl, rfl⟩
theorem rlcAcc : Statement .rlcAcc := ⟨_, _, rfl, rfl⟩
theorem ldAtNnSp (nn : Word) : Statement (.ldAtNnSp nn) := ⟨_, _, rfl, rfl⟩
theorem addHlBc : Statement .addHlBc := ⟨_, _, rfl, rfl⟩
theorem ldAAtBc : Statement .ldAAtBc := ⟨_, _, rfl, rfl⟩
theorem decBc : Statement .decBc := ⟨_, _, rfl, rfl⟩
theorem incC : Statement .incC := ⟨_, _, rfl, rfl⟩
theorem decC : Statement .decC := ⟨_, _, rfl, rfl⟩
theorem ldCN (n : Byte) : Statement (.ldCN n) := ⟨_, _, rfl, rfl⟩
theorem rrcAcc : Statement .rrcAcc := ⟨_, _, rfl, rfl⟩
theorem stop : Statement .stop := ⟨_, _, rfl, rfl⟩
theorem ldDeNn (nn : Word) : Statement (.ldDeNn nn) := ⟨_, _, rfl, rfl⟩
theorem ldAtDeA : Statement .ldAtDeA := ⟨_, _, rfl, rfl⟩
theorem incDe : Statement .incDe := ⟨_, _, rfl, rfl⟩
theorem incD : Statement .incD := ⟨_, _, rfl, rfl⟩
theorem decD : Statement .decD := ⟨_, _, rfl, rfl⟩
theorem ldDN (n : Byte) : Statement (.ldDN n) := ⟨_, _, rfl, rfl⟩
theorem rlAcc : Statement .rlAcc := ⟨_, _, rfl, rfl⟩
theorem jrE (e : Byte) : Statement (.jrE e) := ⟨_, _, rfl, rfl⟩
theorem addHlDe : Statement .addHlDe := ⟨_, _, rfl, rfl⟩
theorem ldAAtDe : Statement .ldAAtDe := ⟨_, _, rfl, rfl⟩
theorem decDe : Statement .decDe := ⟨_, _, rfl, rfl⟩
theorem incE : Statement .incE := ⟨_, _, rfl, rfl⟩
theorem decE : Statement .decE := ⟨_, _, rfl, rfl⟩
theorem ldEN (n : Byte) : Statement (.ldEN n) := ⟨_, _, rfl, rfl⟩
theorem rrAcc : Statement .rrAcc := ⟨_, _, rfl, rfl⟩
theorem jrNzE (e : Byte) : Statement (.jrNzE e) := ⟨_, _, rfl, rfl⟩
theorem ldHlNn (nn : Word) : Statement (.ldHlNn nn) := ⟨_, _, rfl, rfl⟩
theorem ldAtHlIncA : Statement .ldAtHlIncA := ⟨_, _, rfl, rfl⟩
theorem incHl : Statement .incHl := ⟨_, _, rfl, rfl⟩
theorem incH : Statement .incH := ⟨_, _, rfl, rfl⟩
theorem decH : Statement .decH := ⟨_, _, rfl, rfl⟩
theorem ldHN (n : Byte) : Statement (.ldHN n) := ⟨_, _, rfl, rfl⟩
theorem daa : Statement .daa := ⟨_, _, rfl, rfl⟩
theorem jrZE (e : Byte) : Statement (.jrZE e) := ⟨_, _, rfl, rfl⟩
theorem addHlHl : Statement .addHlHl := ⟨_, _, rfl, rfl⟩
theorem ldAAtHlInc : Statement .ldAAtHlInc := ⟨_, _, rfl, rfl⟩
theorem decHl : Statement .decHl := ⟨_, _, rfl, rfl⟩
theorem incL : Statement .incL := ⟨_, _, rfl, rfl⟩
theorem decL : Statement .decL := ⟨_, _, rfl, rfl⟩
theorem ldLN (n : Byte) : Statement (.ldLN n) := ⟨_, _, rfl, rfl⟩
theorem cplAcc : Statement .cplAcc := ⟨_, _, rfl, rfl⟩
theorem jrNcE (e : Byte) : Statement (.jrNcE e) := ⟨_, _, rfl, rfl⟩
theorem ldSpNn (nn : Word) : Statement (.ldSpNn nn) := ⟨_, _, rfl, rfl⟩
theorem ldAtHlDecA : Statement .ldAtHlDecA := ⟨_, _, rfl, rfl⟩
theorem incSp : Statement .incSp := ⟨_, _, rfl, rfl⟩
theorem incAtHl : Statement .incAtHl := ⟨_, _, rfl, rfl⟩
theorem decAtHl : Statement .decAtHl := ⟨_, _, rfl, rfl⟩
theorem ldAtHlN (n : Byte) : Statement (.ldAtHlN n) := ⟨_, _, rfl, rfl⟩
theorem scf : Statement .scf := ⟨_, _, rfl, rfl⟩
theorem jrCE (e : Byte) : Statement (.jrCE e) := ⟨_, _, rfl, rfl⟩
theorem addHlSp : Statement .addHlSp := ⟨_, _, rfl, rfl⟩
theorem ldAAtHlDec : Statement .ldAAtHlDec := ⟨_, _, rfl, rfl⟩
theorem decSp : Statement .decSp := ⟨_, _, rfl, rfl⟩
theorem incA : Statement .incA := ⟨_, _, rfl, rfl⟩
theorem decA : Statement .decA := ⟨_, _, rfl, rfl⟩
theorem ldAN (n : Byte) : Statement (.ldAN n) := ⟨_, _, rfl, rfl⟩
theorem ccf : Statement .ccf := ⟨_, _, rfl, rfl⟩
theorem ldBB : Statement .ldBB := ⟨_, _, rfl, rfl⟩
theorem ldBC : Statement .ldBC := ⟨_, _, rfl, rfl⟩
theorem ldBD : Statement .ldBD := ⟨_, _, rfl, rfl⟩
theorem ldBE : Statement .ldBE := ⟨_, _, rfl, rfl⟩
theorem ldBH : Statement .ldBH := ⟨_, _, rfl, rfl⟩
theorem ldBL : Statement .ldBL := ⟨_, _, rfl, rfl⟩
theorem ldBAtHl : Statement .ldBAtHl := ⟨_, _, rfl, rfl⟩
theorem ldBA : Statement .ldBA := ⟨_, _, rfl, rfl⟩
theorem ldCB : Statement .ldCB := ⟨_, _, rfl, rfl⟩
theorem ldCC : Statement .ldCC := ⟨_, _, rfl, rfl⟩
theorem ldCD : Statement .ldCD := ⟨_, _, rfl, rfl⟩
theorem ldCE : Statement .ldCE := ⟨_, _, rfl, rfl⟩
theorem ldCH : Statement .ldCH := ⟨_, _, rfl, rfl⟩
theorem ldCL : Statement .ldCL := ⟨_, _, rfl, rfl⟩
theorem ldCAtHl : Statement .ldCAtHl := ⟨_, _, rfl, rfl⟩
theorem ldCA : Statement .ldCA := ⟨_, _, rfl, rfl⟩
theorem ldDB : Statement .ldDB := ⟨_, _, rfl, rfl⟩
theorem ldDC : Statement .ldDC := ⟨_, _, rfl, rfl⟩
theorem ldDD : Statement .ldDD := ⟨_, _, rfl, rfl⟩
theorem ldDE : Statement .ldDE := ⟨_, _, rfl, rfl⟩
theorem ldDH : Statement .ldDH := ⟨_, _, rfl, rfl⟩
theorem ldDL : Statement .ldDL := ⟨_, _, rfl, rfl⟩
theorem ldDAtHl : Statement .ldDAtHl := ⟨_, _, rfl, rfl⟩
theorem ldDA : Statement .ldDA := ⟨_, _, rfl, rfl⟩
theorem ldEB : Statement .ldEB := ⟨_, _, rfl, rfl⟩
theorem ldEC : Statement .ldEC := ⟨_, _, rfl, rfl⟩
theorem ldED : Statement .ldED := ⟨_, _, rfl, rfl⟩
theorem ldEE : Statement .ldEE := ⟨_, _, rfl, rfl⟩
theorem ldEH : Statement .ldEH := ⟨_, _, rfl, rfl⟩
theorem ldEL : Statement .ldEL := ⟨_, _, rfl, rfl⟩
theorem ldEAtHl : Statement .ldEAtHl := ⟨_, _, rfl, rfl⟩
theorem ldEA : Statement .ldEA := ⟨_, _, rfl, rfl⟩
theorem ldHB : Statement .ldHB := ⟨_, _, rfl, rfl⟩
theorem ldHC : Statement .ldHC := ⟨_, _, rfl, rfl⟩
theorem ldHD : Statement .ldHD := ⟨_, _, rfl, rfl⟩
theorem ldHE : Statement .ldHE := ⟨_, _, rfl, rfl⟩
theorem ldHH : Statement .ldHH := ⟨_, _, rfl, rfl⟩
theorem ldHL : Statement .ldHL := ⟨_, _, rfl, rfl⟩
theorem ldHAtHl : Statement .ldHAtHl := ⟨_, _, rfl, rfl⟩
theorem ldHA : Statement .ldHA := ⟨_, _, rfl, rfl⟩
theorem ldLB : Statement .ldLB := ⟨_, _, rfl, rfl⟩
theorem ldLC : Statement .ldLC := ⟨_, _, rfl, rfl⟩
theorem ldLD : Statement .ldLD := ⟨_, _, rfl, rfl⟩
theorem ldLE : Statement .ldLE := ⟨_, _, rfl, rfl⟩
theorem ldLH : Statement .ldLH := ⟨_, _, rfl, rfl⟩
theorem ldLL : Statement .ldLL := ⟨_, _, rfl, rfl⟩
theorem ldLAtHl : Statement .ldLAtHl := ⟨_, _, rfl, rfl⟩
theorem ldLA : Statement .ldLA := ⟨_, _, rfl, rfl⟩
theorem ldAtHlB : Statement .ldAtHlB := ⟨_, _, rfl, rfl⟩
theorem ldAtHlC : Statement .ldAtHlC := ⟨_, _, rfl, rfl⟩
theorem ldAtHlD : Statement .ldAtHlD := ⟨_, _, rfl, rfl⟩
theorem ldAtHlE : Statement .ldAtHlE := ⟨_, _, rfl, rfl⟩
theorem ldAtHlH : Statement .ldAtHlH := ⟨_, _, rfl, rfl⟩
theorem ldAtHlL : Statement .ldAtHlL := ⟨_, _, rfl, rfl⟩
theorem halt : Statement .halt := ⟨_, _, rfl, rfl⟩
theorem ldAtHlA : Statement .ldAtHlA := ⟨_, _, rfl, rfl⟩
theorem ldAB : Statement .ldAB := ⟨_, _, rfl, rfl⟩
theorem ldAC : Statement .ldAC := ⟨_, _, rfl, rfl⟩
theorem ldAD : Statement .ldAD := ⟨_, _, rfl, rfl⟩
theorem ldAE : Statement .ldAE := ⟨_, _, rfl, rfl⟩
theorem ldAH : Statement .ldAH := ⟨_, _, rfl, rfl⟩
theorem ldAL : Statement .ldAL := ⟨_, _, rfl, rfl⟩
theorem ldAAtHl : Statement .ldAAtHl := ⟨_, _, rfl, rfl⟩
theorem ldAA : Statement .ldAA := ⟨_, _, rfl, rfl⟩
theorem addAB : Statement .addAB := ⟨_, _, rfl, rfl⟩
theorem addAC : Statement .addAC := ⟨_, _, rfl, rfl⟩
theorem addAD : Statement .addAD := ⟨_, _, rfl, rfl⟩
theorem addAE : Statement .addAE := ⟨_, _, rfl, rfl⟩
theorem addAH : Statement .addAH := ⟨_, _, rfl, rfl⟩
theorem addAL : Statement .addAL := ⟨_, _, rfl, rfl⟩
theorem addAAtHl : Statement .addAAtHl := ⟨_, _, rfl, rfl⟩
theorem addAA : Statement .addAA := ⟨_, _, rfl, rfl⟩
theorem adcAB : Statement .adcAB := ⟨_, _, rfl, rfl⟩
theorem adcAC : Statement .adcAC := ⟨_, _, rfl, rfl⟩
theorem adcAD : Statement .adcAD := ⟨_, _, rfl, rfl⟩
theorem adcAE : Statement .adcAE := ⟨_, _, rfl, rfl⟩
theorem adcAH : Statement .adcAH := ⟨_, _, rfl, rfl⟩
theorem adcAL : Statement .adcAL := ⟨_, _, rfl, rfl⟩
theorem adcAAtHl : Statement .adcAAtHl := ⟨_, _, rfl, rfl⟩
theorem adcAA : Statement .adcAA := ⟨_, _, rfl, rfl⟩
theorem subB : Statement .subB := ⟨_, _, rfl, rfl⟩
theorem subC : Statement .subC := ⟨_, _, rfl, rfl⟩
theorem subD : Statement .subD := ⟨_, _, rfl, rfl⟩
theorem subE : Statement .subE := ⟨_, _, rfl, rfl⟩
theorem subH : Statement .subH := ⟨_, _, rfl, rfl⟩
theorem subL : Statement .subL := ⟨_, _, rfl, rfl⟩
theorem subAtHl : Statement .subAtHl := ⟨_, _, rfl, rfl⟩
theorem subA : Statement .subA := ⟨_, _, rfl, rfl⟩
theorem sbcAB : Statement .sbcAB := ⟨_, _, rfl, rfl⟩
theorem sbcAC : Statement .sbcAC := ⟨_, _, rfl, rfl⟩
theorem sbcAD : Statement .sbcAD := ⟨_, _, rfl, rfl⟩
theorem sbcAE : Statement .sbcAE := ⟨_, _, rfl, rfl⟩
theorem sbcAH : Statement .sbcAH := ⟨_, _, rfl, rfl⟩
theorem sbcAL : Statement .sbcAL := ⟨_, _, rfl, rfl⟩
theorem sbcAAtHl : Statement .sbcAAtHl := ⟨_, _, rfl, rfl⟩
theorem sbcAA : Statement .sbcAA := ⟨_, _, rfl, rfl⟩
theorem andB : Statement .andB := ⟨_, _, rfl, rfl⟩
theorem andC : Statement .andC := ⟨_, _, rfl, rfl⟩
theorem andD : Statement .andD := ⟨_, _, rfl, rfl⟩
theorem andE : Statement .andE := ⟨_, _, rfl, rfl⟩
theorem andH : Statement .andH := ⟨_, _, rfl, rfl⟩
theorem andL : Statement .andL := ⟨_, _, rfl, rfl⟩
theorem andAtHl : Statement .andAtHl := ⟨_, _, rfl, rfl⟩
theorem andA : Statement .andA := ⟨_, _, rfl, rfl⟩
theorem xorB : Statement .xorB := ⟨_, _, rfl, rfl⟩
theorem xorC : Statement .xorC := ⟨_, _, rfl, rfl⟩
theorem xorD : Statement .xorD := ⟨_, _, rfl, rfl⟩
theorem xorE : Statement .xorE := ⟨_, _, rfl, rfl⟩
theorem xorH : Statement .xorH := ⟨_, _, rfl, rfl⟩
theorem xorL : Statement .xorL := ⟨_, _, rfl, rfl⟩
theorem xorAtHl : Statement .xorAtHl := ⟨_, _, rfl, rfl⟩
theorem xorA : Statement .xorA := ⟨_, _, rfl, rfl⟩
theorem orB : Statement .orB := ⟨_, _, rfl, rfl⟩
theorem orC : Statement .orC := ⟨_, _, rfl, rfl⟩
theorem orD : Statement .orD := ⟨_, _, rfl, rfl⟩
theorem orE : Statement .orE := ⟨_, _, rfl, rfl⟩
theorem orH : Statement .orH := ⟨_, _, rfl, rfl⟩
theorem orL : Statement .orL := ⟨_, _, rfl, rfl⟩
theorem orAtHl : Statement .orAtHl := ⟨_, _, rfl, rfl⟩
theorem orA : Statement .orA := ⟨_, _, rfl, rfl⟩
theorem cpB : Statement .cpB := ⟨_, _, rfl, rfl⟩
theorem cpC : Statement .cpC := ⟨_, _, rfl, rfl⟩
theorem cpD : Statement .cpD := ⟨_, _, rfl, rfl⟩
theorem cpE : Statement .cpE := ⟨_, _, rfl, rfl⟩
theorem cpH : Statement .cpH := ⟨_, _, rfl, rfl⟩
theorem cpL : Statement .cpL := ⟨_, _, rfl, rfl⟩
theorem cpAtHl : Statement .cpAtHl := ⟨_, _, rfl, rfl⟩
theorem cpA : Statement .cpA := ⟨_, _, rfl, rfl⟩
theorem retNz : Statement .retNz := ⟨_, _, rfl, rfl⟩
theorem popBc : Statement .popBc := ⟨_, _, rfl, rfl⟩
theorem jpNzNn (nn : Word) : Statement (.jpNzNn nn) := ⟨_, _, rfl, rfl⟩
theorem jpNn (nn : Word) : Statement (.jpNn nn) := ⟨_, _, rfl, rfl⟩
theorem callNzNn (nn : Word) : Statement (.callNzNn nn) := ⟨_, _, rfl, rfl⟩
theorem pushBc : Statement .pushBc := ⟨_, _, rfl, rfl⟩
theorem addAN (n : Byte) : Statement (.addAN n) := ⟨_, _, rfl, rfl⟩
theorem rst00 : Statement .rst00 := ⟨_, _, rfl, rfl⟩
theorem retZ : Statement .retZ := ⟨_, _, rfl, rfl⟩
theorem ret : Statement .ret := ⟨_, _, rfl, rfl⟩
theorem jpZNn (nn : Word) : Statement (.jpZNn nn) := ⟨_, _, rfl, rfl⟩
theorem prefixCb (op2 : Byte) : Statement (.prefixCb op2) := ⟨_, _, rfl, rfl⟩
theorem callZNn (nn : Word) : Statement (.callZNn nn) := ⟨_, _, rfl, rfl⟩
theorem callNn (nn : Word) : Statement (.callNn nn) := ⟨_, _, rfl, rfl⟩
theorem adcAN (n : Byte) : Statement (.adcAN n) := ⟨_, _, rfl, rfl⟩
theorem rst08 : Statement .rst08 := ⟨_, _, rfl, rfl⟩
theorem retNc : Statement .retNc := ⟨_, _, rfl, rfl⟩
theorem popDe : Statement .popDe := ⟨_, _, rfl, rfl⟩
theorem jpNcNn (nn : Word) : Statement (.jpNcNn nn) := ⟨_, _, rfl, rfl⟩
theorem illegalD3 : Statement .illegalD3 := ⟨_, _, rfl, rfl⟩
theorem callNcNn (nn : Word) : Statement (.callNcNn nn) := ⟨_, _, rfl, rfl⟩
theorem pushDe : Statement .pushDe := ⟨_, _, rfl, rfl⟩
theorem subN (n : Byte) : Statement (.subN n) := ⟨_, _, rfl, rfl⟩
theorem rst10 : Statement .rst10 := ⟨_, _, rfl, rfl⟩
theorem retC : Statement .retC := ⟨_, _, rfl, rfl⟩
theorem reti : Statement .reti := ⟨_, _, rfl, rfl⟩
theorem jpCNn (nn : Word) : Statement (.jpCNn nn) := ⟨_, _, rfl, rfl⟩
theorem illegalDB : Statement .illegalDB := ⟨_, _, rfl, rfl⟩
theorem callCNn (nn : Word) : Statement (.callCNn nn) := ⟨_, _, rfl, rfl⟩
theorem illegalDD : Statement .illegalDD := ⟨_, _, rfl, rfl⟩
theorem sbcAN (n : Byte) : Statement (.sbcAN n) := ⟨_, _, rfl, rfl⟩
theorem rst18 : Statement .rst18 := ⟨_, _, rfl, rfl⟩
theorem ldhAtNA (n : Byte) : Statement (.ldhAtNA n) := ⟨_, _, rfl, rfl⟩
theorem popHl : Statement .popHl := ⟨_, _, rfl, rfl⟩
theorem ldhAtCA : Statement .ldhAtCA := ⟨_, _, rfl, rfl⟩
theorem illegalE3 : Statement .illegalE3 := ⟨_, _, rfl, rfl⟩
theorem illegalE4 : Statement .illegalE4 := ⟨_, _, rfl, rfl⟩
theorem pushHl : Statement .pushHl := ⟨_, _, rfl, rfl⟩
theorem andN (n : Byte) : Statement (.andN n) := ⟨_, _, rfl, rfl⟩
theorem rst20 : Statement .rst20 := ⟨_, _, rfl, rfl⟩
theorem addSpE (e : Byte) : Statement (.addSpE e) := ⟨_, _, rfl, rfl⟩
theorem jpHl : Statement .jpHl := ⟨_, _, rfl, rfl⟩
theorem ldAtNnA (nn : Word) : Statement (.ldAtNnA nn) := ⟨_, _, rfl, rfl⟩
theorem illegalEB : Statement .illegalEB := ⟨_, _, rfl, rfl⟩
theorem illegalEC : Statement .illegalEC := ⟨_, _, rfl, rfl⟩
theorem illegalED : Statement .illegalED := ⟨_, _, rfl, rfl⟩
theorem xorN (n : Byte) : Statement (.xorN n) := ⟨_, _, rfl, rfl⟩
theorem rst28 : Statement .rst28 := ⟨_, _, rfl, rfl⟩
theorem ldhAAtN (n : Byte) : Statement (.ldhAAtN n) := ⟨_, _, rfl, rfl⟩
theorem popAf : Statement .popAf := ⟨_, _, rfl, rfl⟩
theorem ldhAAtC : Statement .ldhAAtC := ⟨_, _, rfl, rfl⟩
theorem di : Statement .di := ⟨_, _, rfl, rfl⟩
theorem illegalF4 : Statement .illegalF4 := ⟨_, _, rfl, rfl⟩
theorem pushAf : Statement .pushAf := ⟨_, _, rfl, rfl⟩
theorem orN (n : Byte) : Statement (.orN n) := ⟨_, _, rfl, rfl⟩
theorem rst30 : Statement .rst30 := ⟨_, _, rfl, rfl⟩
theorem ldHlSpE (e : Byte) : Statement (.ldHlSpE e) := ⟨_, _, rfl, rfl⟩
theorem ldSpHl : Statement .ldSpHl := ⟨_, _, rfl, rfl⟩
theorem ldAAtNn (nn : Word) : Statement (.ldAAtNn nn) := ⟨_, _, rfl, rfl⟩
theorem ei : Statement .ei := ⟨_, _, rfl, rfl⟩
theorem illegalFC : Statement .illegalFC := ⟨_, _, rfl, rfl⟩
theorem illegalFD : Statement .illegalFD := ⟨_, _, rfl, rfl⟩
theorem cpN (n : Byte) : Statement (.cpN n) := ⟨_, _, rfl, rfl⟩
theorem rst38 : Statement .rst38 := ⟨_, _, rfl, rfl⟩
theorem rlcB : Statement .rlcB := ⟨_, _, rfl, rfl⟩
theorem rlcC : Statement .rlcC := ⟨_, _, rfl, rfl⟩
theorem rlcD : Statement .rlcD := ⟨_, _, rfl, rfl⟩
theorem rlcE : Statement .rlcE := ⟨_, _, rfl, rfl⟩
theorem rlcH : Statement .rlcH := ⟨_, _, rfl, rfl⟩
theorem rlcL : Statement .rlcL := ⟨_, _, rfl, rfl⟩
theorem rlcAtHl : Statement .rlcAtHl := ⟨_, _, rfl, rfl⟩
theorem rlcA : Statement .rlcA := ⟨_, _, rfl, rfl⟩
theorem rrcB : Statement .rrcB := ⟨_, _, rfl, rfl⟩
theorem rrcC : Statement .rrcC := ⟨_, _, rfl, rfl⟩
theorem rrcD : Statement .rrcD := ⟨_, _, rfl, rfl⟩
theorem rrcE : Statement .rrcE := ⟨_, _, rfl, rfl⟩
theorem rrcH : Statement .rrcH := ⟨_, _, rfl, rfl⟩
theorem rrcL : Statement .rrcL := ⟨_, _, rfl, rfl⟩
theorem rrcAtHl : Statement .rrcAtHl := ⟨_, _, rfl, rfl⟩
theorem rrcA : Statement .rrcA := ⟨_, _, rfl, rfl⟩
theorem rlB : Statement .rlB := ⟨_, _, rfl, rfl⟩
theorem rlC : Statement .rlC := ⟨_, _, rfl, rfl⟩
theorem rlD : Statement .rlD := ⟨_, _, rfl, rfl⟩
theorem rlE : Statement .rlE := ⟨_, _, rfl, rfl⟩
theorem rlH : Statement .rlH := ⟨_, _, rfl, rfl⟩
theorem rlL : Statement .rlL := ⟨_, _, rfl, rfl⟩
theorem rlAtHl : Statement .rlAtHl := ⟨_, _, rfl, rfl⟩
theorem rlA : Statement .rlA := ⟨_, _, rfl, rfl⟩
theorem rrB : Statement .rrB := ⟨_, _, rfl, rfl⟩
theorem rrC : Statement .rrC := ⟨_, _, rfl, rfl⟩
theorem rrD : Statement .rrD := ⟨_, _, rfl, rfl⟩
theorem rrE : Statement .rrE := ⟨_, _, rfl, rfl⟩
theorem rrH : Statement .rrH := ⟨_, _, rfl, rfl⟩
theorem rrL : Statement .rrL := ⟨_, _, rfl, rfl⟩
theorem rrAtHl : Statement .rrAtHl := ⟨_, _, rfl, rfl⟩
theorem rrA : Statement .rrA := ⟨_, _, rfl, rfl⟩
theorem slaB : Statement .slaB := ⟨_, _, rfl, rfl⟩
theorem slaC : Statement .slaC := ⟨_, _, rfl, rfl⟩
theorem slaD : Statement .slaD := ⟨_, _, rfl, rfl⟩
theorem slaE : Statement .slaE := ⟨_, _, rfl, rfl⟩
theorem slaH : Statement .slaH := ⟨_, _, rfl, rfl⟩
theorem slaL : Statement .slaL := ⟨_, _, rfl, rfl⟩
theorem slaAtHl : Statement .slaAtHl := ⟨_, _, rfl, rfl⟩
theorem slaA : Statement .slaA := ⟨_, _, rfl, rfl⟩
theorem sraB : Statement .sraB := ⟨_, _, rfl, rfl⟩
theorem sraC : Statement .sraC := ⟨_, _, rfl, rfl⟩
theorem sraD : Statement .sraD := ⟨_, _, rfl, rfl⟩
theorem sraE : Statement .sraE := ⟨_, _, rfl, rfl⟩
theorem sraH : Statement .sraH := ⟨_, _, rfl, rfl⟩
theorem sraL : Statement .sraL := ⟨_, _, rfl, rfl⟩
theorem sraAtHl : Statement .sraAtHl := ⟨_, _, rfl, rfl⟩
theorem sraA : Statement .sraA := ⟨_, _, rfl, rfl⟩
theorem swapB : Statement .swapB := ⟨_, _, rfl, rfl⟩
theorem swapC : Statement .swapC := ⟨_, _, rfl, rfl⟩
theorem swapD : Statement .swapD := ⟨_, _, rfl, rfl⟩
theorem swapE : Statement .swapE := ⟨_, _, rfl, rfl⟩
theorem swapH : Statement .swapH := ⟨_, _, rfl, rfl⟩
theorem swapL : Statement .swapL := ⟨_, _, rfl, rfl⟩
theorem swapAtHl : Statement .swapAtHl := ⟨_, _, rfl, rfl⟩
theorem swapA : Statement .swapA := ⟨_, _, rfl, rfl⟩
theorem srlB : Statement .srlB := ⟨_, _, rfl, rfl⟩
theorem srlC : Statement .srlC := ⟨_, _, rfl, rfl⟩
theorem srlD : Statement .srlD := ⟨_, _, rfl, rfl⟩
theorem srlE : Statement .srlE := ⟨_, _, rfl, rfl⟩
theorem srlH : Statement .srlH := ⟨_, _, rfl, rfl⟩
theorem srlL : Statement .srlL := ⟨_, _, rfl, rfl⟩
theorem srlAtHl : Statement .srlAtHl := ⟨_, _, rfl, rfl⟩
theorem srlA : Statement .srlA := ⟨_, _, rfl, rfl⟩
theorem bit0B : Statement .bit0B := ⟨_, _, rfl, rfl⟩
theorem bit0C : Statement .bit0C := ⟨_, _, rfl, rfl⟩
theorem bit0D : Statement .bit0D := ⟨_, _, rfl, rfl⟩
theorem bit0E : Statement .bit0E := ⟨_, _, rfl, rfl⟩
theorem bit0H : Statement .bit0H := ⟨_, _, rfl, rfl⟩
theorem bit0L : Statement .bit0L := ⟨_, _, rfl, rfl⟩
theorem bit0AtHl : Statement .bit0AtHl := ⟨_, _, rfl, rfl⟩
theorem bit0A : Statement .bit0A := ⟨_, _, rfl, rfl⟩
theorem bit1B : Statement .bit1B := ⟨_, _, rfl, rfl⟩
theorem bit1C : Statement .bit1C := ⟨_, _, rfl, rfl⟩
theorem bit1D : Statement .bit1D := ⟨_, _, rfl, rfl⟩
theorem bit1E : Statement .bit1E := ⟨_, _, rfl, rfl⟩
theorem bit1H : Statement .bit1H := ⟨_, _, rfl, rfl⟩
theorem bit1L : Statement .bit1L := ⟨_, _, rfl, rfl⟩
theorem bit1AtHl : Statement .bit1AtHl := ⟨_, _, rfl, rfl⟩
theorem bit1A : Statement .bit1A := ⟨_, _, rfl, rfl⟩
theorem bit2B : Statement .bit2B := ⟨_, _, rfl, rfl⟩
theorem bit2C : Statement .bit2C := ⟨_, _, rfl, rfl⟩
theorem bit2D : Statement .bit2D := ⟨_, _, rfl, rfl⟩
theorem bit2E : Statement .bit2E := ⟨_, _, rfl, rfl⟩
theorem bit2H : Statement .bit2H := ⟨_, _, rfl, rfl⟩
theorem bit2L : Statement .bit2L := ⟨_, _, rfl, rfl⟩
theorem bit2AtHl : Statement .bit2AtHl := ⟨_, _, rfl, rfl⟩
theorem bit2A : Statement .bit2A := ⟨_, _, rfl, rfl⟩
theorem bit3B : Statement .bit3B := ⟨_, _, rfl, rfl⟩
theorem bit3C : Statement .bit3C := ⟨_, _, rfl, rfl⟩
theorem bit3D : Statement .bit3D := ⟨_, _, rfl, rfl⟩
theorem bit3E : Statement .bit3E := ⟨_, _, rfl, rfl⟩
theorem bit3H : Statement .bit3H := ⟨_, _, rfl, rfl⟩
theorem bit3L : Statement .bit3L := ⟨_, _, rfl, rfl⟩
theorem bit3AtHl : Statement .bit3AtHl := ⟨_, _, rfl, rfl⟩
theorem bit3A : Statement .bit3A := ⟨_, _, rfl, rfl⟩
theorem bit4B : Statement .bit4B := ⟨_, _, rfl, rfl⟩
theorem bit4C : Statement .bit4C := ⟨_, _, rfl, rfl⟩
theorem bit4D : Statement .bit4D := ⟨_, _, rfl, rfl⟩
theorem bit4E : Statement .bit4E := ⟨_, _, rfl, rfl⟩
theorem bit4H : Statement .bit4H := ⟨_, _, rfl, rfl⟩
theorem bit4L : Statement .bit4L := ⟨_, _, rfl, rfl⟩
theorem bit4AtHl : Statement .bit4AtHl := ⟨_, _, rfl, rfl⟩
theorem bit4A : Statement .bit4A := ⟨_, _, rfl, rfl⟩
theorem bit5B : Statement .bit5B := ⟨_, _, rfl, rfl⟩
theorem bit5C : Statement .bit5C := ⟨_, _, rfl, rfl⟩
theorem bit5D : Statement .bit5D := ⟨_, _, rfl, rfl⟩
theorem bit5E : Statement .bit5E := ⟨_, _, rfl, rfl⟩
theorem bit5H : Statement .bit5H := ⟨_, _, rfl, rfl⟩
theorem bit5L : Statement .bit5L := ⟨_, _, rfl, rfl⟩
theorem bit5AtHl : Statement .bit5AtHl := ⟨_, _, rfl, rfl⟩
theorem bit5A : Statement .bit5A := ⟨_, _, rfl, rfl⟩
theorem bit6B : Statement .bit6B := ⟨_, _, rfl, rfl⟩
theorem bit6C : Statement .bit6C := ⟨_, _, rfl, rfl⟩
theorem bit6D : Statement .bit6D := ⟨_, _, rfl, rfl⟩
theorem bit6E : Statement .bit6E := ⟨_, _, rfl, rfl⟩
theorem bit6H : Statement .bit6H := ⟨_, _, rfl, rfl⟩
theorem bit6L : Statement .bit6L := ⟨_, _, rfl, rfl⟩
theorem bit6AtHl : Statement .bit6AtHl := ⟨_, _, rfl, rfl⟩
theorem bit6A : Statement .bit6A := ⟨_, _, rfl, rfl⟩
theorem bit7B : Statement .bit7B := ⟨_, _, rfl, rfl⟩
theorem bit7C : Statement .bit7C := ⟨_, _, rfl, rfl⟩
theorem bit7D : Statement .bit7D := ⟨_, _, rfl, rfl⟩
theorem bit7E : Statement .bit7E := ⟨_, _, rfl, rfl⟩
theorem bit7H : Statement .bit7H := ⟨_, _, rfl, rfl⟩
theorem bit7L : Statement .bit7L := ⟨_, _, rfl, rfl⟩
theorem bit7AtHl : Statement .bit7AtHl := ⟨_, _, rfl, rfl⟩
theorem bit7A : Statement .bit7A := ⟨_, _, rfl, rfl⟩
theorem res0B : Statement .res0B := ⟨_, _, rfl, rfl⟩
theorem res0C : Statement .res0C := ⟨_, _, rfl, rfl⟩
theorem res0D : Statement .res0D := ⟨_, _, rfl, rfl⟩
theorem res0E : Statement .res0E := ⟨_, _, rfl, rfl⟩
theorem res0H : Statement .res0H := ⟨_, _, rfl, rfl⟩
theorem res0L : Statement .res0L := ⟨_, _, rfl, rfl⟩
theorem res0AtHl : Statement .res0AtHl := ⟨_, _, rfl, rfl⟩
theorem res0A : Statement .res0A := ⟨_, _, rfl, rfl⟩
theorem res1B : Statement .res1B := ⟨_, _, rfl, rfl⟩
theorem res1C : Statement .res1C := ⟨_, _, rfl, rfl⟩
theorem res1D : Statement .res1D := ⟨_, _, rfl, rfl⟩
theorem res1E : Statement .res1E := ⟨_, _, rfl, rfl⟩
theorem res1H : Statement .res1H := ⟨_, _, rfl, rfl⟩
theorem res1L : Statement .res1L := ⟨_, _, rfl, rfl⟩
theorem res1AtHl : Statement .res1AtHl := ⟨_, _, rfl, rfl⟩
theorem res1A : Statement .res1A := ⟨_, _, rfl, rfl⟩
theorem res2B : Statement .res2B := ⟨_, _, rfl, rfl⟩
theorem res2C : Statement .res2C := ⟨_, _, rfl, rfl⟩
theorem res2D : Statement .res2D := ⟨_, _, rfl, rfl⟩
theorem res2E : Statement .res2E := ⟨_, _, rfl, rfl⟩
theorem res2H : Statement .res2H := ⟨_, _, rfl, rfl⟩
theorem res2L : Statement .res2L := ⟨_, _, rfl, rfl⟩
theorem res2AtHl : Statement .res2AtHl := ⟨_, _, rfl, rfl⟩
theorem res2A : Statement .res2A := ⟨_, _, rfl, rfl⟩
theorem res3B : Statement .res3B := ⟨_, _, rfl, rfl⟩
theorem res3C : Statement .res3C := ⟨_, _, rfl, rfl⟩
theorem res3D : Statement .res3D := ⟨_, _, rfl, rfl⟩
theorem res3E : Statement .res3E := ⟨_, _, rfl, rfl⟩
theorem res3H : Statement .res3H := ⟨_, _, rfl, rfl⟩
theorem res3L : Statement .res3L := ⟨_, _, rfl, rfl⟩
theorem res3AtHl : Statement .res3AtHl := ⟨_, _, rfl, rfl⟩
theorem res3A : Statement .res3A := ⟨_, _, rfl, rfl⟩
theorem res4B : Statement .res4B := ⟨_, _, rfl, rfl⟩
theorem res4C : Statement .res4C := ⟨_, _, rfl, rfl⟩
theorem res4D : Statement .res4D := ⟨_, _, rfl, rfl⟩
theorem res4E : Statement .res4E := ⟨_, _, rfl, rfl⟩
theorem res4H : Statement .res4H := ⟨_, _, rfl, rfl⟩
theorem res4L : Statement .res4L := ⟨_, _, rfl, rfl⟩
theorem res4AtHl : Statement .res4AtHl := ⟨_, _, rfl, rfl⟩
theorem res4A : Statement .res4A := ⟨_, _, rfl, rfl⟩
theorem res5B : Statement .res5B := ⟨_, _, rfl, rfl⟩
theorem res5C : Statement .res5C := ⟨_, _, rfl, rfl⟩
theorem res5D : Statement .res5D := ⟨_, _, rfl, rfl⟩
theorem res5E : Statement .res5E := ⟨_, _, rfl, rfl⟩
theorem res5H : Statement .res5H := ⟨_, _, rfl, rfl⟩
theorem res5L : Statement .res5L := ⟨_, _, rfl, rfl⟩
theorem res5AtHl : Statement .res5AtHl := ⟨_, _, rfl, rfl⟩
theorem res5A : Statement .res5A := ⟨_, _, rfl, rfl⟩
theorem res6B : Statement .res6B := ⟨_, _, rfl, rfl⟩
theorem res6C : Statement .res6C := ⟨_, _, rfl, rfl⟩
theorem res6D : Statement .res6D := ⟨_, _, rfl, rfl⟩
theorem res6E : Statement .res6E := ⟨_, _, rfl, rfl⟩
theorem res6H : Statement .res6H := ⟨_, _, rfl, rfl⟩
theorem res6L : Statement .res6L := ⟨_, _, rfl, rfl⟩
theorem res6AtHl : Statement .res6AtHl := ⟨_, _, rfl, rfl⟩
theorem res6A : Statement .res6A := ⟨_, _, rfl, rfl⟩
theorem res7B : Statement .res7B := ⟨_, _, rfl, rfl⟩
theorem res7C : Statement .res7C := ⟨_, _, rfl, rfl⟩
theorem res7D : Statement .res7D := ⟨_, _, rfl, rfl⟩
theorem res7E : Statement .res7E := ⟨_, _, rfl, rfl⟩
theorem res7H : Statement .res7H := ⟨_, _, rfl, rfl⟩
theorem res7L : Statement .res7L := ⟨_, _, rfl, rfl⟩
theorem res7AtHl : Statement .res7AtHl := ⟨_, _, rfl, rfl⟩
theorem res7A : Statement .res7A := ⟨_, _, rfl, rfl⟩
theorem set0B : Statement .set0B := ⟨_, _, rfl, rfl⟩
theorem set0C : Statement .set0C := ⟨_, _, rfl, rfl⟩
theorem set0D : Statement .set0D := ⟨_, _, rfl, rfl⟩
theorem set0E : Statement .set0E := ⟨_, _, rfl, rfl⟩
theorem set0H : Statement .set0H := ⟨_, _, rfl, rfl⟩
theorem set0L : Statement .set0L := ⟨_, _, rfl, rfl⟩
theorem set0AtHl : Statement .set0AtHl := ⟨_, _, rfl, rfl⟩
theorem set0A : Statement .set0A := ⟨_, _, rfl, rfl⟩
theorem set1B : Statement .set1B := ⟨_, _, rfl, rfl⟩
theorem set1C : Statement .set1C := ⟨_, _, rfl, rfl⟩
theorem set1D : Statement .set1D := ⟨_, _, rfl, rfl⟩
theorem set1E : Statement .set1E := ⟨_, _, rfl, rfl⟩
theorem set1H : Statement .set1H := ⟨_, _, rfl, rfl⟩
theorem set1L : Statement .set1L := ⟨_, _, rfl, rfl⟩
theorem set1AtHl : Statement .set1AtHl := ⟨_, _, rfl, rfl⟩
theorem set1A : Statement .set1A := ⟨_, _, rfl, rfl⟩
theorem set2B : Statement .set2B := ⟨_, _, rfl, rfl⟩
theorem set2C : Statement .set2C := ⟨_, _, rfl, rfl⟩
theorem set2D : Statement .set2D := ⟨_, _, rfl, rfl⟩
theorem set2E : Statement .set2E := ⟨_, _, rfl, rfl⟩
theorem set2H : Statement .set2H := ⟨_, _, rfl, rfl⟩
theorem set2L : Statement .set2L := ⟨_, _, rfl, rfl⟩
theorem set2AtHl : Statement .set2AtHl := ⟨_, _, rfl, rfl⟩
theorem set2A : Statement .set2A := ⟨_, _, rfl, rfl⟩
theorem set3B : Statement .set3B := ⟨_, _, rfl, rfl⟩
theorem set3C : Statement .set3C := ⟨_, _, rfl, rfl⟩
theorem set3D : Statement .set3D := ⟨_, _, rfl, rfl⟩
theorem set3E : Statement .set3E := ⟨_, _, rfl, rfl⟩
theorem set3H : Statement .set3H := ⟨_, _, rfl, rfl⟩
theorem set3L : Statement .set3L := ⟨_, _, rfl, rfl⟩
theorem set3AtHl : Statement .set3AtHl := ⟨_, _, rfl, rfl⟩
theorem set3A : Statement .set3A := ⟨_, _, rfl, rfl⟩
theorem set4B : Statement .set4B := ⟨_, _, rfl, rfl⟩
theorem set4C : Statement .set4C := ⟨_, _, rfl, rfl⟩
theorem set4D : Statement .set4D := ⟨_, _, rfl, rfl⟩
theorem set4E : Statement .set4E := ⟨_, _, rfl, rfl⟩
theorem set4H : Statement .set4H := ⟨_, _, rfl, rfl⟩
theorem set4L : Statement .set4L := ⟨_, _, rfl, rfl⟩
theorem set4AtHl : Statement .set4AtHl := ⟨_, _, rfl, rfl⟩
theorem set4A : Statement .set4A := ⟨_, _, rfl, rfl⟩
theorem set5B : Statement .set5B := ⟨_, _, rfl, rfl⟩
theorem set5C : Statement .set5C := ⟨_, _, rfl, rfl⟩
theorem set5D : Statement .set5D := ⟨_, _, rfl, rfl⟩
theorem set5E : Statement .set5E := ⟨_, _, rfl, rfl⟩
theorem set5H : Statement .set5H := ⟨_, _, rfl, rfl⟩
theorem set5L : Statement .set5L := ⟨_, _, rfl, rfl⟩
theorem set5AtHl : Statement .set5AtHl := ⟨_, _, rfl, rfl⟩
theorem set5A : Statement .set5A := ⟨_, _, rfl, rfl⟩
theorem set6B : Statement .set6B := ⟨_, _, rfl, rfl⟩
theorem set6C : Statement .set6C := ⟨_, _, rfl, rfl⟩
theorem set6D : Statement .set6D := ⟨_, _, rfl, rfl⟩
theorem set6E : Statement .set6E := ⟨_, _, rfl, rfl⟩
theorem set6H : Statement .set6H := ⟨_, _, rfl, rfl⟩
theorem set6L : Statement .set6L := ⟨_, _, rfl, rfl⟩
theorem set6AtHl : Statement .set6AtHl := ⟨_, _, rfl, rfl⟩
theorem set6A : Statement .set6A := ⟨_, _, rfl, rfl⟩
theorem set7B : Statement .set7B := ⟨_, _, rfl, rfl⟩
theorem set7C : Statement .set7C := ⟨_, _, rfl, rfl⟩
theorem set7D : Statement .set7D := ⟨_, _, rfl, rfl⟩
theorem set7E : Statement .set7E := ⟨_, _, rfl, rfl⟩
theorem set7H : Statement .set7H := ⟨_, _, rfl, rfl⟩
theorem set7L : Statement .set7L := ⟨_, _, rfl, rfl⟩
theorem set7AtHl : Statement .set7AtHl := ⟨_, _, rfl, rfl⟩
theorem set7A : Statement .set7A := ⟨_, _, rfl, rfl⟩

end Sys2Proof.Laws.EncodingLength
end

