-- ==== Sys2Proof/Laws/Render.lean ====
section
/-! SUPPORT. What the renderer does: the bytes a line leaves in the framebuffer, the bytes it reads from VRAM and OAM, and the order of
the objects it selects. -/

namespace Sys2Proof.Machine

/-! ### The framebuffer -/

theorem shadeRgba_getD (shade k : Nat) (hs : shade < 4) (hk : k < 4) :
    (shadeRgba shade).getD k 0 = if k = 3 then 0xFF else 0xFF - 0x55 * BitVec.ofNat 8 shade := by
  interval_cases shade <;> interval_cases k <;> rfl

theorem getD_flatMap_range {k : Nat} (hk : k < 4) (f : Nat → List Byte) (hf : ∀ n, (f n).length = 4) (n x : Nat) (hx : x < n) :
    ((List.range n).flatMap f).getD (x * 4 + k) 0 = (f x).getD k 0 := by
  induction n with
  | zero => omega
  | succ n ih =>
    have hl : ((List.range n).flatMap f).length = n * 4 := by simp [List.length_flatMap, hf]
    rw [List.range_succ, List.flatMap_append]
    rcases Nat.lt_or_ge x n with h | h
    · rw [List.getD_append _ _ _ _ (by omega), ih h]
    · obtain rfl : x = n := by omega
      rw [List.getD_append_right _ _ _ _ (by omega), hl]
      simp

/-- Byte k of column x of a line holds the colour of the column's shade. -/
theorem State.renderLine_read (s : State) (ly : Nat) {x k : Nat} (hx : x < 160) (hk : k < 4) :
    (s.renderLine ly).ppu.framebuffer.read ((ly * 160 + x) * 4 + k) =
      (shadeRgba (s.pixelShade (s.selectObjects ly) ly x)).getD k 0 := by
  have h := Memory.read_writeRange s.ppu.framebuffer (ly * lineBytes) (s.lineRgba ly) ((ly * 160 + x) * 4 + k)
  rw [State.lineRgba_length, lineBytes, if_pos (by omega), show (ly * 160 + x) * 4 + k - ly * 640 = x * 4 + k by omega] at h
  exact h.trans (getD_flatMap_range hk _ (fun _ => shadeRgba_length _) _ _ hx)

/-- A line leaves every other byte of the framebuffer alone. -/
theorem State.renderLine_read_other (s : State) {ly off : Nat} (h : off < ly * 640 ∨ (ly + 1) * 640 ≤ off) :
    (s.renderLine ly).ppu.framebuffer.read off = s.ppu.framebuffer.read off := by
  have h' := Memory.read_writeRange s.ppu.framebuffer (ly * lineBytes) (s.lineRgba ly) off
  rw [State.lineRgba_length, lineBytes, if_neg (by omega)] at h'
  exact h'

/-! ### Shades -/

theorem paletteShade_eq (palette : Byte) (ci : Nat) : paletteShade palette ci = ((palette >>> (2 * ci)) &&& 3).toNat := by
  rw [paletteShade, BitVec.toNat_and, BitVec.toNat_ushiftRight, Nat.shiftRight_eq_div_pow]
  exact (Nat.and_two_pow_sub_one_eq_mod _ 2).symm

theorem paletteShade_lt (palette : Byte) (ci : Nat) : paletteShade palette ci < 4 := Nat.mod_lt _ (by decide)

theorem State.bgShade_lt (s : State) (ly x : Nat) : s.bgShade ly x < 4 := by
  unfold State.bgShade
  split
  · decide
  · exact paletteShade_lt _ _

theorem State.pixelShade_lt (s : State) (objects : List ObjEntry) (ly x : Nat) : s.pixelShade objects ly x < 4 := by
  simp only [State.pixelShade]
  split
  · exact s.bgShade_lt ly x
  · split
    · exact s.bgShade_lt ly x
    · exact paletteShade_lt _ _

/-- With objects disabled the shade of a column is the background's. -/
theorem State.pixelShade_of_disabled (s : State) (ly x : Nat) (h : s.ppu.lcdc[1] = false) :
    s.pixelShade (s.selectObjects ly) ly x = s.bgShade ly x := by
  simp [State.selectObjects, State.pixelShade, h]

/-! ### VRAM and OAM as the renderer reads them -/

theorem State.readByte_vramAt (s : State) {a : Word} (h : 0x8000 ≤ a.toNat) (h' : a.toNat ≤ 0x9FFF) :
    s.readByte a = s.vramAt a.toNat := by
  unfold State.readByte
  rw [regionOf_vram h h']
  rfl

theorem State.readByte_oamAt (s : State) {j : Nat} (hj : j < 160) :
    s.readByte (BitVec.ofNat 16 (0xFE00 + j)) = s.oam.read j := by
  have h : (BitVec.ofNat 16 (0xFE00 + j)).toNat = 0xFE00 + j := by rw [BitVec.toNat_ofNat]; omega
  unfold State.readByte
  rw [regionOf_oam (by omega) (by omega), h, Nat.add_sub_cancel_left]
  rfl

/-- The address of a row of a background tile, as a word. -/
theorem State.tileRow_toNat (s : State) (t : Byte) {row : Nat} (h : row < 8) :
    ((if s.ppu.lcdc[4] = true then 0x8000 + 16 * t.setWidth 16 else 0x9000 + 16 * t.signExtend 16 : Word) +
        2 * BitVec.ofNat 16 row).toNat = s.tileRow t row ∧
      0x8000 ≤ s.tileRow t row ∧ s.tileRow t row + 1 ≤ 0x9FFF := by
  have ht := t.isLt
  have h8 : (0x8000 : Word).toNat = 0x8000 := rfl
  have h9 : (0x9000 : Word).toNat = 0x9000 := rfl
  have h16 : (16 : Word).toNat = 16 := rfl
  have h2 : (2 : Word).toNat = 2 := rfl
  unfold State.tileRow
  split
  · simp only [BitVec.toNat_add, BitVec.toNat_mul, BitVec.toNat_ofNat, BitVec.toNat_setWidth, h8, h16, h2]
    omega
  · simp only [BitVec.toNat_add, BitVec.toNat_mul, BitVec.toNat_ofNat, BitVec.toNat_signExtend, BitVec.toNat_setWidth,
      BitVec.msb_eq_decide, decide_eq_true_eq, h9, h16, h2]
    split <;> split <;> omega

/-! ### The order of the selected objects (R421) -/

/-- Object j has priority over object k: it stands further left, or at the same X earlier in OAM. -/
def State.objBefore (s : State) (j k : Nat) : Prop :=
  (s.objEntry j).x.toNat < (s.objEntry k).x.toNat ∨ ((s.objEntry j).x.toNat = (s.objEntry k).x.toNat ∧ j < k)

theorem State.insertByX_objEntry (s : State) (k : Nat) (ks : List Nat) (hk : ∀ j ∈ ks, k < j) (h : ks.Pairwise s.objBefore) :
    ∃ js : List Nat, js.Perm (k :: ks) ∧ js.Pairwise s.objBefore ∧
      insertByX (s.objEntry k) (ks.map s.objEntry) = js.map s.objEntry := by
  induction ks with
  | nil => exact ⟨[k], .refl _, by simp, rfl⟩
  | cons j ks ih =>
    obtain ⟨h1, h2⟩ := List.pairwise_cons.1 h
    by_cases hx : (s.objEntry k).x.toNat ≤ (s.objEntry j).x.toNat
    · refine ⟨k :: j :: ks, .refl _, List.pairwise_cons.2 ⟨fun i hi => ?_, h⟩, by simp [insertByX, hx]⟩
      have hki := hk i hi
      have hj : i = j ∨ s.objBefore j i := (List.mem_cons.1 hi).imp_right (h1 i)
      unfold State.objBefore at *
      rcases hj with rfl | hj <;> omega
    · obtain ⟨js, hp, hs, he⟩ := ih (fun i hi => hk i (List.mem_cons_of_mem _ hi)) h2
      refine ⟨j :: js, (hp.cons j).trans (.swap k j ks), List.pairwise_cons.2 ⟨fun i hi => ?_, hs⟩, by simp [insertByX, hx, he]⟩
      rcases List.mem_cons.1 (hp.mem_iff.1 hi) with rfl | hi'
      · exact .inl (by omega)
      · exact h1 i hi'

/-- Inserting entries of rising index one by one sorts them. -/
theorem State.foldr_insertByX (s : State) (ks : List Nat) (h : ks.Pairwise (· < ·)) :
    ∃ js : List Nat, js.Perm ks ∧ js.Pairwise s.objBefore ∧ (ks.map s.objEntry).foldr insertByX [] = js.map s.objEntry := by
  induction ks with
  | nil => exact ⟨[], .refl _, .nil, rfl⟩
  | cons k ks ih =>
    obtain ⟨h1, h2⟩ := List.pairwise_cons.1 h
    obtain ⟨js, hp, hs, he⟩ := ih h2
    obtain ⟨is, gp, gs, ge⟩ := s.insertByX_objEntry k js (fun j hj => h1 j (hp.mem_iff.1 hj)) hs
    exact ⟨is, gp.trans (hp.cons k), gs, by simp [he, ge]⟩

end Sys2Proof.Machine
end

