-- ==== Sys2Proof/Laws/Step.lean ====
section
/-! SUPPORT. The parts of a step around the instruction (R350): what reading the instruction's bytes, taking the input, the boot check,
the EI countdown and the interrupt check leave alone, and that each keeps the invariant. -/

namespace Sys2Proof.Machine

/-! ### Reading the instruction -/

/-- Reading bytes takes draws and does nothing else. -/
theorem State.readBytes_eq (n : Nat) (a : Word) (s : State) :
    (State.readBytes n a s).2 = { s with draws := (State.readBytes n a s).2.draws } := by
  induction n generalizing a s with
  | zero => rfl
  | succ n ih =>
    have h : (State.readBytes (n + 1) a s).2 = (State.readBytes n (a + 1) (s.afterRead a)).2 := rfl
    rw [h, ih]
    rcases s.afterRead_cases a with h | h <;> rw [h]

theorem State.readBytes_length (n : Nat) (a : Word) (s : State) : (State.readBytes n a s).1.length = n := by
  induction n generalizing a s with
  | zero => rfl
  | succ n ih => exact congrArg (· + 1) (ih _ _)

/-- The state after the fetch differs in the draws taken. -/
theorem State.fetch_eq (s : State) : s.fetch.2 = { s with draws := s.fetch.2.draws } := State.readBytes_eq _ _ _

/-! ### The start of a step -/

/-- The start of a step moves the input on and may take the overlay away; it does nothing else. -/
theorem State.beginStep_eq (s : State) :
    s.beginStep =
      { s with
        joypInput := s.beginStep.joypInput, joypQueue := s.beginStep.joypQueue
        bootActive := s.bootActive && decide (s.regs.pc ≠ 0x0100) } := by
  unfold State.beginStep State.takeInput State.bootCheck
  cases s.joypQueue <;> by_cases h : s.bootActive = true ∧ s.regs.pc = 0x0100
  · simp [h]
  · by_cases hb : s.bootActive = true <;> simp_all <;> (cases s; simp_all)
  · simp [h]
  · by_cases hb : s.bootActive = true <;> simp_all

theorem State.beginStep_inv {s : State} (h : s.Inv) : s.beginStep.Inv := by
  rw [State.beginStep_eq]
  exact h

/-! ### The end of a step -/

/-- The interrupt check does one of three things (R362, R364). -/
theorem State.interruptPhase_cases (s : State) :
    s.interruptPhase = s ∨ s.interruptPhase = { s with halted := false } ∨
      ∃ i, s.interruptPhase = ({ s.dispatch i with cycles := (s.dispatch i).cycles + 20 } : State).advance 20 := by
  unfold State.interruptPhase State.interruptCheck
  by_cases h : s.ime = true ∧ s.pending ≠ 0
  · rw [if_pos h]
    exact .inr (.inr ⟨_, rfl⟩)
  · rw [if_neg h]
    by_cases h' : s.ime = false ∧ s.halted = true ∧ s.pending ≠ 0
    · rw [if_pos h']
      exact .inr (.inl rfl)
    · rw [if_neg h']
      exact .inl rfl

theorem State.interruptPhase_inv {s : State} (h : s.Inv) : s.interruptPhase.Inv := by
  rcases s.interruptPhase_cases with h1 | h1 | ⟨i, h1⟩ <;> rw [h1]
  · exact h
  · exact h
  · exact State.advance_inv ((State.spend_midInv _ _).mpr (State.dispatch_midInv h.mid i)) _

theorem State.eiCountdown_midInv {s : State} (h : s.MidInv) : s.eiCountdown.MidInv := by
  unfold State.eiCountdown
  split
  · exact h
  · obtain ⟨h1, h2, h3, h4, h5, h6, h7⟩ := h
    exact ⟨h1, h2, h3, h4, h5, Nat.le_trans (Nat.sub_le _ _) h6, h7⟩

end Sys2Proof.Machine
end

