-- ==== Sys2Proof/Laws/Timing.lean ====
section
/-! SUPPORT. What the loops of AdvanceTimer (R400) and AdvancePPU (R410) come to: TIMA's increments as one count, the timer in closed
form, and one turn of the pixel pipeline's loop, with its bound out of sight. -/

namespace Sys2Proof.Machine

/-! ### The timer -/

theorem timerPeriod_pos (tac : Byte) : 0 < timerPeriod tac := by unfold timerPeriod; split <;> omega

/-- Increments of TIMA add up. -/
theorem State.tickTimas_add (m n : Nat) (s : State) :
    State.tickTimas n (State.tickTimas m s) = State.tickTimas (m + n) s := by
  induction m generalizing s with
  | zero => simp [State.tickTimas]
  | succ m ih =>
    rw [Nat.add_right_comm]
    exact ih _

theorem State.tickTima_with (s : State) (d : Byte) (a t : Nat) :
    ({ s with timer.div := d, timer.divAcc := a, timer.timaAcc := t } : State).tickTima =
      { s.tickTima with timer.div := d, timer.divAcc := a, timer.timaAcc := t } := by
  unfold State.tickTima
  simp only
  split <;> rfl

/-- An increment of TIMA does not look at the divider or at the accumulators. -/
theorem State.tickTimas_with (n : Nat) (s : State) (d : Byte) (a t : Nat) :
    State.tickTimas n ({ s with timer.div := d, timer.divAcc := a, timer.timaAcc := t } : State) =
      { State.tickTimas n s with timer.div := d, timer.divAcc := a, timer.timaAcc := t } := by
  induction n generalizing s with
  | zero => rfl
  | succ n ih => simp only [State.tickTimas]; rw [State.tickTima_with, ih]

/-- AdvanceTimer in closed form. -/
theorem State.advanceTimer_eq (s : State) (c : Nat) :
    s.advanceTimer c =
      if s.timer.tac[2] then
        { State.tickTimas ((s.timer.timaAcc + c) / timerPeriod s.timer.tac) s with
          timer.div := s.timer.div + BitVec.ofNat 8 ((s.timer.divAcc + c) / 256)
          timer.divAcc := (s.timer.divAcc + c) % 256
          timer.timaAcc := (s.timer.timaAcc + c) % timerPeriod s.timer.tac }
      else
        { s with
          timer.div := s.timer.div + BitVec.ofNat 8 ((s.timer.divAcc + c) / 256)
          timer.divAcc := (s.timer.divAcc + c) % 256 } := by
  unfold State.advanceTimer State.advanceTima State.advanceDiv
  simp only [divPeriod]
  split
  · rw [← State.tickTimas_with]
  · rfl

/-! ### The pixel pipeline -/

/-- Leaving a mode does not look at the clock. -/
theorem State.leaveMode_with (s : State) (c : Nat) :
    ({ s with ppu.clock := c } : State).leaveMode = { s.leaveMode with ppu.clock := c } := by
  unfold State.leaveMode
  cases hm : s.ppu.mode
  · simp only [hm]; rfl
  · simp only [hm]; rfl
  · by_cases h : s.ppu.ly + 1 = firstVblankLine
    · simp only [hm, State.setLy, State.setMode, h, if_true, Ppu.modeSource]
    · simp only [hm, State.setLy, State.setMode, h, if_false, Ppu.modeSource]
  · by_cases h : s.ppu.ly = lastLine
    · simp only [hm, State.setLy, State.setMode, h, if_true, Ppu.modeSource]
    · simp only [hm, State.setLy, State.setMode, h, if_false, Ppu.modeSource]

theorem State.leaveMode_clock (s : State) : s.leaveMode.ppu.clock = s.ppu.clock := by
  have h := State.leaveMode_with s s.ppu.clock
  rw [show ({ s with ppu.clock := s.ppu.clock } : State) = s from rfl] at h
  rw [h]

theorem State.leaveMode_off_lcdc (s : State) :
    s.leaveMode.ppu.off = s.ppu.off ∧ s.leaveMode.ppu.lcdc = s.ppu.lcdc := by
  unfold State.leaveMode
  cases hm : s.ppu.mode
  · exact ⟨rfl, rfl⟩
  · exact ⟨rfl, rfl⟩
  · by_cases h : s.ppu.ly + 1 = firstVblankLine
    · simp only [State.setLy, State.setMode, h, if_true]; trivial
    · simp only [State.setLy, State.setMode, h, if_false]; trivial
  · by_cases h : s.ppu.ly = lastLine
    · simp only [State.setLy, State.setMode, h, if_true]; trivial
    · simp only [State.setLy, State.setMode, h, if_false]; trivial

/-- A bound that the clock cannot reach does not show. -/
theorem State.ppuLoop_bound {m n : Nat} {s : State} (hm : s.ppu.clock < 80 * m) (hn : s.ppu.clock < 80 * n) :
    State.ppuLoop m s = State.ppuLoop n s := by
  induction m generalizing n s with
  | zero => omega
  | succ m ih =>
    cases n with
    | zero => omega
    | succ n =>
      simp only [State.ppuLoop]
      split
      · rfl
      · have := modeCycles_ge s.ppu.mode
        apply ih <;> (rw [State.leaveMode_clock]; simp only; omega)

/-- The loop of R410 with its bound. -/
def State.runPpu (s : State) : State := State.ppuLoop (s.ppu.clock / 80 + 1) s

/-- One turn of the loop of R410. -/
theorem State.runPpu_turn (s : State) :
    s.runPpu =
      if s.ppu.clock < modeCycles s.ppu.mode then s
      else ({ s with ppu.clock := s.ppu.clock - modeCycles s.ppu.mode } : State).leaveMode.runPpu := by
  unfold State.runPpu
  rw [State.ppuLoop]
  split
  · rfl
  · have := modeCycles_ge s.ppu.mode
    apply State.ppuLoop_bound <;> (rw [State.leaveMode_clock]; simp only; omega)

/-- With the display on, AdvancePPU adds the cycles and runs the loop. -/
theorem State.advancePpu_on {s : State} (h : s.ppu.lcdc[7] = true) (h' : s.ppu.off = false) (c : Nat) :
    s.advancePpu c = ({ s with ppu.clock := s.ppu.clock + c } : State).runPpu := by
  unfold State.advancePpu
  rw [if_neg (by simp [h])]
  simp only [h', Bool.false_eq_true, if_false]
  rw [State.runPpu]

theorem State.runPpu_off_lcdc (s : State) : s.runPpu.ppu.off = s.ppu.off ∧ s.runPpu.ppu.lcdc = s.ppu.lcdc := by
  unfold State.runPpu
  generalize s.ppu.clock / 80 + 1 = n
  induction n generalizing s with
  | zero => exact ⟨rfl, rfl⟩
  | succ n ih =>
    rw [State.ppuLoop]
    split
    · exact ⟨rfl, rfl⟩
    · have h := ih ({ s with ppu.clock := s.ppu.clock - modeCycles s.ppu.mode } : State).leaveMode
      rw [(State.leaveMode_off_lcdc _).1, (State.leaveMode_off_lcdc _).2] at h
      exact h

/-- Cycles can be added before the loop or after it. -/
theorem State.runPpu_add (s : State) (d : Nat) :
    ({ s with ppu.clock := s.ppu.clock + d } : State).runPpu =
      ({ s.runPpu with ppu.clock := s.runPpu.ppu.clock + d } : State).runPpu := by
  suffices ∀ n : Nat, s.ppu.clock < 80 * n → ({ s with ppu.clock := s.ppu.clock + d } : State).runPpu =
      ({ s.runPpu with ppu.clock := s.runPpu.ppu.clock + d } : State).runPpu from this (s.ppu.clock + 1) (by omega)
  intro n hn
  induction n generalizing s with
  | zero => omega
  | succ n ih =>
    by_cases h : s.ppu.clock < modeCycles s.ppu.mode
    · rw [show s.runPpu = s by rw [State.runPpu_turn, if_pos h]]
    · rw [show s.runPpu = ({ s with ppu.clock := s.ppu.clock - modeCycles s.ppu.mode } : State).leaveMode.runPpu by
        rw [State.runPpu_turn, if_neg h], State.runPpu_turn]
      have h2 : ¬ s.ppu.clock + d < modeCycles s.ppu.mode := by omega
      simp only [if_neg h2]
      have := modeCycles_ge s.ppu.mode
      rw [← ih _ (by rw [State.leaveMode_clock]; simp only; omega), State.leaveMode_clock]
      congr 1
      simp only [State.leaveMode_with]
      congr 2
      omega

end Sys2Proof.Machine
end

