-- ==== Sys2Proof/Tests/Slice0.lean ====
section
/-! SUPPORT. Tests: one step each on a small state, with results from spec/95_test_vectors.md and the examples of the instruction rules;
and for every statement of Obligations.lean with hypotheses a state that meets them. -/

namespace Sys2Proof.Tests

open Sys2Proof.Machine

/-! ### The start states (95_test_vectors.md section 2: PC = 0xC000, no overlay, the direct controller, all else 0) -/

/-- The common start state. -/
def base : State := { State.reset with bootActive := false, regs.pc := 0xC000 }

/-- A state with bytes in work RAM (and elsewhere) at an address. -/
def withBytes (s : State) (a : Word) (bytes : List Byte) : State := s.placeBytes a bytes

/-- The registers of the start state. -/
def regs (a : Byte) (f : Byte) (bc de hl sp : Word) : Regs :=
  { a := a, f := Flags.ofByte f, b := hiByte bc, c := loByte bc, d := hiByte de, e := loByte de, h := hiByte hl, l := loByte hl
    sp := sp, pc := 0xC000 }

/-- What a step answers, looked at through a function; none where it has no next state. -/
def afterStep {α : Type} (s : State) (look : State → α) : Option α :=
  match step s with
  | .next t => some (look t)
  | _ => none

/-- One instruction at 0xC000, from given registers. -/
def one (bytes : List Byte) (r : Regs) : State := withBytes { base with regs := r } 0xC000 bytes

/-- A, F, BC, DE, HL, SP, PC, the cycles, and some bytes of memory as one number, the first the most significant. -/
structure View where
  a : Byte
  f : Byte
  bc : Word
  de : Word
  hl : Word
  sp : Word
  pc : Word
  cycles : Nat
  bytes : Nat
  deriving DecidableEq, Repr

/-- What a test looks at after a step. -/
def view (addresses : List Word) (t : State) : View :=
  ⟨t.regs.a, t.regs.f.toByte, t.bc, t.de, t.hl, t.regs.sp, t.regs.pc, t.cycles, addresses.foldl (fun n a => n * 256 + (t.readByte a).toNat) 0⟩

/-- Whether an outcome is a next state. -/
def isNext (r : Result) : Bool :=
  match r with
  | .next _ => true
  | _ => false

/-! ### Well-formedness (R131) and decoding -/

theorem test_prefixCb_is_ill_formed : Instr.wellFormed (.prefixCb 0x37) = false := by decide

theorem test_swapA_is_well_formed : Instr.wellFormed .swapA = true := by decide

theorem test_decode_nothing : decode [] = .error .noBytes := by decide

theorem test_decode_truncated : decode [0xC3, 0x50] = .error (.truncated 0xC3) := by decide

theorem test_table_word_of_cb_row : decodeTableWord 16 0xCB37 = some .swapA := by decide

theorem test_table_word_of_base_row : decodeTableWord 8 0xC3 = some (.jpNn 0x0000) := by decide

theorem test_fetch_word_runs : afterStep (State.reset.withFetchWord 8 0x3C) (fun t => t.regs.a) = some 1 := by decide


/-! ### Loads (95_test_vectors.md section 2.1 and the examples of 40_loads.md) -/

/-- 95_test_vectors.md 2.1. -/
theorem test_ldHlSpE_negative :
    afterStep (one [0xF8, 0xFE] (regs 0x00 0x00 0x0000 0x0000 0x0000 0xFFF8)) (view []) =
      some ⟨0x00, 0x30, 0x0000, 0x0000, 0xFFF6, 0xFFF8, 0xC002, 12, 0⟩ := by decide

/-- 95_test_vectors.md 2.1. -/
theorem test_ldHlSpE_low_byte :
    afterStep (one [0xF8, 0x01] (regs 0x00 0x00 0x0000 0x0000 0x0000 0x00FF)) (view []) =
      some ⟨0x00, 0x30, 0x0000, 0x0000, 0x0100, 0x00FF, 0xC002, 12, 0⟩ := by decide

/-- 95_test_vectors.md 2.1. -/
theorem test_ldAtNnSp :
    afterStep (one [0x08, 0x00, 0xD1] (regs 0x00 0x00 0x0000 0x0000 0x0000 0xFFF8)) (view [0xD100, 0xD101]) =
      some ⟨0x00, 0x00, 0x0000, 0x0000, 0x0000, 0xFFF8, 0xC003, 20, 0xF8FF⟩ := by decide

/-- 95_test_vectors.md 2.1. -/
theorem test_ldAAtHlInc_wraps :
    afterStep ({ one [0x2A] (regs 0x00 0x00 0x0000 0x0000 0xFFFF 0x0000) with intEnable := 0x1F }) (view []) =
      some ⟨0x1F, 0x00, 0x0000, 0x0000, 0x0000, 0x0000, 0xC001, 8, 0⟩ := by decide

/-- 95_test_vectors.md 2.1, at another address. -/
theorem test_ldAtHlDecA :
    afterStep (one [0x32] (regs 0x42 0x00 0x0000 0x0000 0xC100 0x0000)) (view [0xC100]) =
      some ⟨0x42, 0x00, 0x0000, 0x0000, 0xC0FF, 0x0000, 0xC001, 8, 0x42⟩ := by decide

/-- 95_test_vectors.md 2.1. -/
theorem test_ldhAtNA :
    afterStep (one [0xE0, 0x80] (regs 0x99 0x00 0x0000 0x0000 0x0000 0x0000)) (view [0xFF80]) =
      some ⟨0x99, 0x00, 0x0000, 0x0000, 0x0000, 0x0000, 0xC002, 12, 0x99⟩ := by decide

/-- 95_test_vectors.md 2.1. -/
theorem test_ldhAAtC :
    afterStep (one [0xF2] (regs 0x00 0x00 0x0044 0x0000 0x0000 0x0000)) (view []) =
      some ⟨0x00, 0x00, 0x0044, 0x0000, 0x0000, 0x0000, 0xC001, 8, 0⟩ := by decide

/-- 95_test_vectors.md 2.1. -/
theorem test_pushAf :
    afterStep (one [0xF5] (regs 0x12 0xB0 0x0000 0x0000 0x0000 0xD000)) (view [0xCFFF, 0xCFFE]) =
      some ⟨0x12, 0xB0, 0x0000, 0x0000, 0x0000, 0xCFFE, 0xC001, 16, 0x12B0⟩ := by decide

/-- 95_test_vectors.md 2.1. -/
theorem test_popAf :
    afterStep (withBytes (one [0xF1] (regs 0x00 0x00 0x0000 0x0000 0x0000 0xD000)) 0xD000 [0xFF, 0x00]) (view []) =
      some ⟨0x00, 0xF0, 0x0000, 0x0000, 0x0000, 0xD002, 0xC001, 12, 0⟩ := by decide

/-- 95_test_vectors.md 2.1. -/
theorem test_ldSpHl :
    afterStep (one [0xF9] (regs 0x00 0x00 0x0000 0x0000 0xDFFF 0x0000)) (view []) =
      some ⟨0x00, 0x00, 0x0000, 0x0000, 0xDFFF, 0xDFFF, 0xC001, 8, 0⟩ := by decide

/-- 95_test_vectors.md 2.1. -/
theorem test_ldBB :
    afterStep (one [0x40] (regs 0x00 0xB0 0x1200 0x0000 0x0000 0x0000)) (view []) =
      some ⟨0x00, 0xB0, 0x1200, 0x0000, 0x0000, 0x0000, 0xC001, 4, 0⟩ := by decide

/-- 95_test_vectors.md 2.1. -/
theorem test_ldAtHlN_div :
    afterStep ({ one [0x36, 0x5A] (regs 0x00 0x00 0x0000 0x0000 0xFF04 0x0000) with timer.div := 0x33 }) (view [0xFF04]) =
      some ⟨0x00, 0x00, 0x0000, 0x0000, 0xFF04, 0x0000, 0xC002, 12, 0x00⟩ := by decide

/-- 95_test_vectors.md 2.1. -/
theorem test_ldAtHlA_rom :
    afterStep (one [0x77] (regs 0x05 0x00 0x0000 0x0000 0x2000 0x0000)) (view [0x2000]) =
      some ⟨0x05, 0x00, 0x0000, 0x0000, 0x2000, 0x0000, 0xC001, 8, 0x00⟩ := by decide

/-- R151. -/
theorem test_ldCB :
    afterStep (one [0x48] (regs 0x00 0x00 0x1200 0x0000 0x0000 0x0000)) (view []) =
      some ⟨0x00, 0x00, 0x1212, 0x0000, 0x0000, 0x0000, 0xC001, 4, 0⟩ := by decide

/-- R152. -/
theorem test_ldAAtHl :
    afterStep (withBytes (one [0x7E] (regs 0x00 0x00 0x0000 0x0000 0xC200 0x0000)) 0xC200 [0x5A]) (view []) =
      some ⟨0x5A, 0x00, 0x0000, 0x0000, 0xC200, 0x0000, 0xC001, 8, 0⟩ := by decide

/-- R152, corner case. -/
theorem test_ldHAtHl :
    afterStep (withBytes (one [0x66] (regs 0x00 0x00 0x0000 0x0000 0xC200 0x0000)) 0xC200 [0x12]) (view []) =
      some ⟨0x00, 0x00, 0x0000, 0x0000, 0x1200, 0x0000, 0xC001, 8, 0⟩ := by decide

/-- R153. -/
theorem test_ldAtHlB_echo :
    afterStep (one [0x70] (regs 0x00 0x00 0x9900 0x0000 0xC010 0x0000)) (view [0xC010, 0xE010]) =
      some ⟨0x00, 0x00, 0x9900, 0x0000, 0xC010, 0x0000, 0xC001, 8, 0x9999⟩ := by decide

/-- R154. -/
theorem test_ldAN :
    afterStep (one [0x3E, 0x7F] (regs 0x00 0x00 0x0000 0x0000 0x0000 0x0000)) (view []) =
      some ⟨0x7F, 0x00, 0x0000, 0x0000, 0x0000, 0x0000, 0xC002, 8, 0⟩ := by decide

/-- R156. -/
theorem test_ldAAtBc :
    afterStep (withBytes (one [0x0A] (regs 0x00 0x00 0xC123 0x0000 0x0000 0x0000)) 0xC123 [0x01]) (view []) =
      some ⟨0x01, 0x00, 0xC123, 0x0000, 0x0000, 0x0000, 0xC001, 8, 0⟩ := by decide

/-- R157. -/
theorem test_ldAAtDe :
    afterStep (withBytes (one [0x1A] (regs 0x00 0x00 0x0000 0xFF80 0x0000 0x0000)) 0xFF80 [0x22]) (view []) =
      some ⟨0x22, 0x00, 0x0000, 0xFF80, 0x0000, 0x0000, 0xC001, 8, 0⟩ := by decide

/-- R159. -/
theorem test_ldAtDeA :
    afterStep (one [0x12] (regs 0x44 0x00 0x0000 0xC100 0x0000 0x0000)) (view [0xC100]) =
      some ⟨0x44, 0x00, 0x0000, 0xC100, 0x0000, 0x0000, 0xC001, 8, 0x44⟩ := by decide

/-- R160. -/
theorem test_ldAAtNn_ly :
    afterStep (one [0xFA, 0x44, 0xFF] (regs 0x00 0x00 0x0000 0x0000 0x0000 0x0000)) (view []) =
      some ⟨0x00, 0x00, 0x0000, 0x0000, 0x0000, 0x0000, 0xC003, 16, 0⟩ := by decide

/-- R161. -/
theorem test_ldAtNnA :
    afterStep (one [0xEA, 0x00, 0xD0] (regs 0x0F 0x00 0x0000 0x0000 0x0000 0x0000)) (view [0xD000]) =
      some ⟨0x0F, 0x00, 0x0000, 0x0000, 0x0000, 0x0000, 0xC003, 16, 0x0F⟩ := by decide

/-- R163. -/
theorem test_ldAAtHlDec :
    afterStep (withBytes (one [0x3A] (regs 0x00 0x00 0x0000 0x0000 0xC100 0x0000)) 0xC100 [0x10]) (view []) =
      some ⟨0x10, 0x00, 0x0000, 0x0000, 0xC0FF, 0x0000, 0xC001, 8, 0⟩ := by decide

/-- R164, corner case. -/
theorem test_ldAtHlIncA_wraps :
    afterStep (one [0x22] (regs 0x1F 0x00 0x0000 0x0000 0xFFFF 0x0000)) (view [0xFFFF]) =
      some ⟨0x1F, 0x00, 0x0000, 0x0000, 0x0000, 0x0000, 0xC001, 8, 0x1F⟩ := by decide

/-- R169. -/
theorem test_ldhAtCA :
    afterStep (one [0xE2] (regs 0x12 0x00 0x0080 0x0000 0x0000 0x0000)) (view [0xFF80]) =
      some ⟨0x12, 0x00, 0x0080, 0x0000, 0x0000, 0x0000, 0xC001, 8, 0x12⟩ := by decide

/-- R170. -/
theorem test_ldSpNn :
    afterStep (one [0x31, 0xFE, 0xFF] (regs 0x00 0x00 0x0000 0x0000 0x0000 0x0000)) (view []) =
      some ⟨0x00, 0x00, 0x0000, 0x0000, 0x0000, 0xFFFE, 0xC003, 12, 0⟩ := by decide

/-- R173. -/
theorem test_pushHl :
    afterStep (one [0xE5] (regs 0x00 0x00 0x0000 0x0000 0x1234 0xFFFE)) (view [0xFFFD, 0xFFFC]) =
      some ⟨0x00, 0x00, 0x0000, 0x0000, 0x1234, 0xFFFC, 0xC001, 16, 0x1234⟩ := by decide

/-- R174. -/
theorem test_popBc :
    afterStep (withBytes (one [0xC1] (regs 0x00 0x00 0x0000 0x0000 0x0000 0xFFFC)) 0xFFFC [0x34, 0x12]) (view []) =
      some ⟨0x00, 0x00, 0x1234, 0x0000, 0x0000, 0xFFFE, 0xC001, 12, 0⟩ := by decide

/-- R168: C = 0, joyp_sel = 0b10, no button pressed. -/
theorem test_ldhAAtC_joypad :
    afterStep { one [0xF2] (regs 0 0 0 0 0 0) with joypSel := 2, joypInput := 0xFF } (fun t => t.regs.a) = some 0xEF := by decide

/-! ### 8-bit arithmetic and logic (section 2.2) -/

/-- 95_test_vectors.md 2.2. -/
theorem test_addAB :
    afterStep (one [0x80] (regs 0xFF 0x00 0x0100 0x0000 0x0000 0x0000)) (view []) =
      some ⟨0x00, 0xB0, 0x0100, 0x0000, 0x0000, 0x0000, 0xC001, 4, 0⟩ := by decide

/-- 95_test_vectors.md 2.2. -/
theorem test_addAN_source_example :
    afterStep (one [0xC6, 0x0F] (regs 0x01 0x00 0x0000 0x0000 0x0000 0x0000)) (view []) =
      some ⟨0x10, 0x20, 0x0000, 0x0000, 0x0000, 0x0000, 0xC002, 8, 0⟩ := by decide

/-- 95_test_vectors.md 2.2. -/
theorem test_adcAN :
    afterStep (one [0xCE, 0xFF] (regs 0x00 0x10 0x0000 0x0000 0x0000 0x0000)) (view []) =
      some ⟨0x00, 0xB0, 0x0000, 0x0000, 0x0000, 0x0000, 0xC002, 8, 0⟩ := by decide

/-- 95_test_vectors.md 2.2. -/
theorem test_adcAB :
    afterStep (one [0x88] (regs 0x0E 0x10 0x0100 0x0000 0x0000 0x0000)) (view []) =
      some ⟨0x10, 0x20, 0x0100, 0x0000, 0x0000, 0x0000, 0xC001, 4, 0⟩ := by decide

/-- 95_test_vectors.md 2.2. -/
theorem test_subB :
    afterStep (one [0x90] (regs 0x3E 0x00 0x3E00 0x0000 0x0000 0x0000)) (view []) =
      some ⟨0x00, 0xC0, 0x3E00, 0x0000, 0x0000, 0x0000, 0xC001, 4, 0⟩ := by decide

/-- 95_test_vectors.md 2.2. -/
theorem test_subN_half :
    afterStep (one [0xD6, 0x0F] (regs 0x3E 0x00 0x0000 0x0000 0x0000 0x0000)) (view []) =
      some ⟨0x2F, 0x60, 0x0000, 0x0000, 0x0000, 0x0000, 0xC002, 8, 0⟩ := by decide

/-- 95_test_vectors.md 2.2. -/
theorem test_subN_carry :
    afterStep (one [0xD6, 0x40] (regs 0x3E 0x00 0x0000 0x0000 0x0000 0x0000)) (view []) =
      some ⟨0xFE, 0x50, 0x0000, 0x0000, 0x0000, 0x0000, 0xC002, 8, 0⟩ := by decide

/-- 95_test_vectors.md 2.2. -/
theorem test_sbcAA :
    afterStep (one [0x9F] (regs 0x12 0x10 0x0000 0x0000 0x0000 0x0000)) (view []) =
      some ⟨0xFF, 0x70, 0x0000, 0x0000, 0x0000, 0x0000, 0xC001, 4, 0⟩ := by decide

/-- 95_test_vectors.md 2.2. -/
theorem test_sbcAN :
    afterStep (one [0xDE, 0x3A] (regs 0x3B 0x10 0x0000 0x0000 0x0000 0x0000)) (view []) =
      some ⟨0x00, 0xC0, 0x0000, 0x0000, 0x0000, 0x0000, 0xC002, 8, 0⟩ := by decide

/-- 95_test_vectors.md 2.2. -/
theorem test_andN :
    afterStep (one [0xE6, 0x00] (regs 0x5A 0x00 0x0000 0x0000 0x0000 0x0000)) (view []) =
      some ⟨0x00, 0xA0, 0x0000, 0x0000, 0x0000, 0x0000, 0xC002, 8, 0⟩ := by decide

/-- 95_test_vectors.md 2.2. -/
theorem test_xorA :
    afterStep (one [0xAF] (regs 0x5A 0x70 0x0000 0x0000 0x0000 0x0000)) (view []) =
      some ⟨0x00, 0x80, 0x0000, 0x0000, 0x0000, 0x0000, 0xC001, 4, 0⟩ := by decide

/-- 95_test_vectors.md 2.2. -/
theorem test_cpN_equal :
    afterStep (one [0xFE, 0x3C] (regs 0x3C 0x00 0x0000 0x0000 0x0000 0x0000)) (view []) =
      some ⟨0x3C, 0xC0, 0x0000, 0x0000, 0x0000, 0x0000, 0xC002, 8, 0⟩ := by decide

/-- 95_test_vectors.md 2.2. -/
theorem test_cpN_less :
    afterStep (one [0xFE, 0x40] (regs 0x3C 0x00 0x0000 0x0000 0x0000 0x0000)) (view []) =
      some ⟨0x3C, 0x50, 0x0000, 0x0000, 0x0000, 0x0000, 0xC002, 8, 0⟩ := by decide

/-- 95_test_vectors.md 2.2. -/
theorem test_incA :
    afterStep (one [0x3C] (regs 0xFF 0x10 0x0000 0x0000 0x0000 0x0000)) (view []) =
      some ⟨0x00, 0xB0, 0x0000, 0x0000, 0x0000, 0x0000, 0xC001, 4, 0⟩ := by decide

/-- 95_test_vectors.md 2.2. -/
theorem test_decA :
    afterStep (one [0x3D] (regs 0x00 0x10 0x0000 0x0000 0x0000 0x0000)) (view []) =
      some ⟨0xFF, 0x70, 0x0000, 0x0000, 0x0000, 0x0000, 0xC001, 4, 0⟩ := by decide

/-- 95_test_vectors.md 2.2. -/
theorem test_daa_add :
    afterStep (one [0x27] (regs 0x7D 0x00 0x0000 0x0000 0x0000 0x0000)) (view []) =
      some ⟨0x83, 0x00, 0x0000, 0x0000, 0x0000, 0x0000, 0xC001, 4, 0⟩ := by decide

/-- 95_test_vectors.md 2.2. -/
theorem test_daa_subtract :
    afterStep (one [0x27] (regs 0x0F 0x60 0x0000 0x0000 0x0000 0x0000)) (view []) =
      some ⟨0x09, 0x40, 0x0000, 0x0000, 0x0000, 0x0000, 0xC001, 4, 0⟩ := by decide

/-- 95_test_vectors.md 2.2. -/
theorem test_cplAcc :
    afterStep (one [0x2F] (regs 0x35 0x80 0x0000 0x0000 0x0000 0x0000)) (view []) =
      some ⟨0xCA, 0xE0, 0x0000, 0x0000, 0x0000, 0x0000, 0xC001, 4, 0⟩ := by decide

/-- 95_test_vectors.md 2.2. -/
theorem test_scf :
    afterStep (one [0x37] (regs 0x00 0xE0 0x0000 0x0000 0x0000 0x0000)) (view []) =
      some ⟨0x00, 0x90, 0x0000, 0x0000, 0x0000, 0x0000, 0xC001, 4, 0⟩ := by decide

/-- 95_test_vectors.md 2.2. -/
theorem test_ccf :
    afterStep (one [0x3F] (regs 0x00 0x90 0x0000 0x0000 0x0000 0x0000)) (view []) =
      some ⟨0x00, 0x80, 0x0000, 0x0000, 0x0000, 0x0000, 0xC001, 4, 0⟩ := by decide

/-- 95_test_vectors.md 2.2. -/
theorem test_orAtHl :
    afterStep (withBytes (one [0xB6] (regs 0x00 0x00 0x0000 0x0000 0xC100 0x0000)) 0xC100 [0x0F]) (view []) =
      some ⟨0x0F, 0x00, 0x0000, 0x0000, 0xC100, 0x0000, 0xC001, 8, 0⟩ := by decide

/-- 95_test_vectors.md 2.2. -/
theorem test_incAtHl :
    afterStep (withBytes (one [0x34] (regs 0x00 0x00 0x0000 0x0000 0xC100 0x0000)) 0xC100 [0x0F]) (view [0xC100]) =
      some ⟨0x00, 0x20, 0x0000, 0x0000, 0xC100, 0x0000, 0xC001, 12, 0x10⟩ := by decide

/-- R213. -/
theorem test_decAtHl :
    afterStep (withBytes (one [0x35] (regs 0x00 0x00 0x0000 0x0000 0xC100 0x0000)) 0xC100 [0x01]) (view [0xC100]) =
      some ⟨0x00, 0xC0, 0x0000, 0x0000, 0xC100, 0x0000, 0xC001, 12, 0x00⟩ := by decide

/-! ### 16-bit arithmetic (section 2.3) -/

/-- 95_test_vectors.md 2.3. -/
theorem test_addHlBc :
    afterStep (one [0x09] (regs 0x00 0x80 0x0605 0x0000 0x8A23 0x0000)) (view []) =
      some ⟨0x00, 0xA0, 0x0605, 0x0000, 0x9028, 0x0000, 0xC001, 8, 0⟩ := by decide

/-- 95_test_vectors.md 2.3. -/
theorem test_addHlHl :
    afterStep (one [0x29] (regs 0x00 0x00 0x0000 0x0000 0x8A23 0x0000)) (view []) =
      some ⟨0x00, 0x30, 0x0000, 0x0000, 0x1446, 0x0000, 0xC001, 8, 0⟩ := by decide

/-- 95_test_vectors.md 2.3. -/
theorem test_addHlDe :
    afterStep (one [0x19] (regs 0x00 0x00 0x0000 0x0001 0xFFFF 0x0000)) (view []) =
      some ⟨0x00, 0x30, 0x0000, 0x0001, 0x0000, 0x0000, 0xC001, 8, 0⟩ := by decide

/-- 95_test_vectors.md 2.3. -/
theorem test_incBc :
    afterStep (one [0x03] (regs 0x00 0x00 0xFFFF 0x0000 0x0000 0x0000)) (view []) =
      some ⟨0x00, 0x00, 0x0000, 0x0000, 0x0000, 0x0000, 0xC001, 8, 0⟩ := by decide

/-- 95_test_vectors.md 2.3. -/
theorem test_decDe :
    afterStep (one [0x1B] (regs 0x00 0xF0 0x0000 0x0000 0x0000 0x0000)) (view []) =
      some ⟨0x00, 0xF0, 0x0000, 0xFFFF, 0x0000, 0x0000, 0xC001, 8, 0⟩ := by decide

/-- 95_test_vectors.md 2.3. -/
theorem test_addSpE_carry :
    afterStep (one [0xE8, 0x01] (regs 0x00 0x00 0x0000 0x0000 0x0000 0x00FF)) (view []) =
      some ⟨0x00, 0x30, 0x0000, 0x0000, 0x0000, 0x0100, 0xC002, 16, 0⟩ := by decide

/-- 95_test_vectors.md 2.3. -/
theorem test_addSpE_minus_one :
    afterStep (one [0xE8, 0xFF] (regs 0x00 0x00 0x0000 0x0000 0x0000 0x0001)) (view []) =
      some ⟨0x00, 0x30, 0x0000, 0x0000, 0x0000, 0x0000, 0xC002, 16, 0⟩ := by decide

/-! ### Rotates, shifts and bits (section 2.4) -/

/-- 95_test_vectors.md 2.4. -/
theorem test_rlcAcc :
    afterStep (one [0x07] (regs 0x85 0x00 0x0000 0x0000 0x0000 0x0000)) (view []) =
      some ⟨0x0B, 0x10, 0x0000, 0x0000, 0x0000, 0x0000, 0xC001, 4, 0⟩ := by decide

/-- 95_test_vectors.md 2.4. -/
theorem test_rlAcc :
    afterStep (one [0x17] (regs 0x80 0x00 0x0000 0x0000 0x0000 0x0000)) (view []) =
      some ⟨0x00, 0x10, 0x0000, 0x0000, 0x0000, 0x0000, 0xC001, 4, 0⟩ := by decide

/-- 95_test_vectors.md 2.4. -/
theorem test_rrcAcc :
    afterStep (one [0x0F] (regs 0x01 0x00 0x0000 0x0000 0x0000 0x0000)) (view []) =
      some ⟨0x80, 0x10, 0x0000, 0x0000, 0x0000, 0x0000, 0xC001, 4, 0⟩ := by decide

/-- 95_test_vectors.md 2.4. -/
theorem test_rrAcc :
    afterStep (one [0x1F] (regs 0x01 0x10 0x0000 0x0000 0x0000 0x0000)) (view []) =
      some ⟨0x80, 0x10, 0x0000, 0x0000, 0x0000, 0x0000, 0xC001, 4, 0⟩ := by decide

/-- 95_test_vectors.md 2.4. -/
theorem test_rlB :
    afterStep (one [0xCB, 0x10] (regs 0x00 0x00 0x8000 0x0000 0x0000 0x0000)) (view []) =
      some ⟨0x00, 0x90, 0x0000, 0x0000, 0x0000, 0x0000, 0xC002, 8, 0⟩ := by decide

/-- 95_test_vectors.md 2.4. -/
theorem test_rrC :
    afterStep (one [0xCB, 0x19] (regs 0x00 0x10 0x0001 0x0000 0x0000 0x0000)) (view []) =
      some ⟨0x00, 0x10, 0x0080, 0x0000, 0x0000, 0x0000, 0xC002, 8, 0⟩ := by decide

/-- 95_test_vectors.md 2.4. -/
theorem test_slaA :
    afterStep (one [0xCB, 0x27] (regs 0xFF 0x00 0x0000 0x0000 0x0000 0x0000)) (view []) =
      some ⟨0xFE, 0x10, 0x0000, 0x0000, 0x0000, 0x0000, 0xC002, 8, 0⟩ := by decide

/-- 95_test_vectors.md 2.4. -/
theorem test_sraA :
    afterStep (one [0xCB, 0x2F] (regs 0x81 0x00 0x0000 0x0000 0x0000 0x0000)) (view []) =
      some ⟨0xC0, 0x10, 0x0000, 0x0000, 0x0000, 0x0000, 0xC002, 8, 0⟩ := by decide

/-- 95_test_vectors.md 2.4. -/
theorem test_swapA :
    afterStep (one [0xCB, 0x37] (regs 0x00 0x10 0x0000 0x0000 0x0000 0x0000)) (view []) =
      some ⟨0x00, 0x80, 0x0000, 0x0000, 0x0000, 0x0000, 0xC002, 8, 0⟩ := by decide

/-- 95_test_vectors.md 2.4. -/
theorem test_srlB :
    afterStep (one [0xCB, 0x38] (regs 0x00 0x00 0x0100 0x0000 0x0000 0x0000)) (view []) =
      some ⟨0x00, 0x90, 0x0000, 0x0000, 0x0000, 0x0000, 0xC002, 8, 0⟩ := by decide

/-- 95_test_vectors.md 2.4. -/
theorem test_bit0A :
    afterStep (one [0xCB, 0x47] (regs 0x01 0x10 0x0000 0x0000 0x0000 0x0000)) (view []) =
      some ⟨0x01, 0x30, 0x0000, 0x0000, 0x0000, 0x0000, 0xC002, 8, 0⟩ := by decide

/-- 95_test_vectors.md 2.4. -/
theorem test_set0B :
    afterStep (one [0xCB, 0xC0] (regs 0x00 0x00 0x0000 0x0000 0x0000 0x0000)) (view []) =
      some ⟨0x00, 0x00, 0x0100, 0x0000, 0x0000, 0x0000, 0xC002, 8, 0⟩ := by decide

/-- 95_test_vectors.md 2.4. -/
theorem test_rlcAtHl :
    afterStep (one [0xCB, 0x06] (regs 0x00 0x00 0x0000 0x0000 0xC100 0x0000)) (view []) =
      some ⟨0x00, 0x80, 0x0000, 0x0000, 0xC100, 0x0000, 0xC002, 16, 0⟩ := by decide

/-- 95_test_vectors.md 2.4. -/
theorem test_bit7AtHl :
    afterStep (withBytes (one [0xCB, 0x7E] (regs 0x00 0x00 0x0000 0x0000 0xC100 0x0000)) 0xC100 [0x7F]) (view []) =
      some ⟨0x00, 0xA0, 0x0000, 0x0000, 0xC100, 0x0000, 0xC002, 12, 0⟩ := by decide

/-- 95_test_vectors.md 2.4. -/
theorem test_res7AtHl :
    afterStep (withBytes (one [0xCB, 0xBE] (regs 0x00 0xF0 0x0000 0x0000 0xC100 0x0000)) 0xC100 [0xFF]) (view [0xC100]) =
      some ⟨0x00, 0xF0, 0x0000, 0x0000, 0xC100, 0x0000, 0xC002, 16, 0x7F⟩ := by decide

/-! ### Control transfer (section 2.5) -/

/-- 95_test_vectors.md 2.5. -/
theorem test_jrE_itself :
    afterStep (one [0x18, 0xFE] (regs 0x00 0x00 0x0000 0x0000 0x0000 0x0000)) (view []) =
      some ⟨0x00, 0x00, 0x0000, 0x0000, 0x0000, 0x0000, 0xC000, 12, 0⟩ := by decide

/-- 95_test_vectors.md 2.5. -/
theorem test_jrNzE_not_taken :
    afterStep (one [0x20, 0x05] (regs 0x00 0x80 0x0000 0x0000 0x0000 0x0000)) (view []) =
      some ⟨0x00, 0x80, 0x0000, 0x0000, 0x0000, 0x0000, 0xC002, 8, 0⟩ := by decide

/-- 95_test_vectors.md 2.5. -/
theorem test_jrCE :
    afterStep (one [0x38, 0x80] (regs 0x00 0x10 0x0000 0x0000 0x0000 0x0000)) (view []) =
      some ⟨0x00, 0x10, 0x0000, 0x0000, 0x0000, 0x0000, 0xBF82, 12, 0⟩ := by decide

/-- 95_test_vectors.md 2.5. -/
theorem test_jpNn :
    afterStep (one [0xC3, 0x34, 0x12] (regs 0x00 0x00 0x0000 0x0000 0x0000 0x0000)) (view []) =
      some ⟨0x00, 0x00, 0x0000, 0x0000, 0x0000, 0x0000, 0x1234, 16, 0⟩ := by decide

/-- 95_test_vectors.md 2.5. -/
theorem test_jpZNn_not_taken :
    afterStep (one [0xCA, 0x34, 0x12] (regs 0x00 0x00 0x0000 0x0000 0x0000 0x0000)) (view []) =
      some ⟨0x00, 0x00, 0x0000, 0x0000, 0x0000, 0x0000, 0xC003, 12, 0⟩ := by decide

/-- 95_test_vectors.md 2.5. -/
theorem test_jpHl :
    afterStep (one [0xE9] (regs 0x00 0x00 0x0000 0x0000 0x4000 0x0000)) (view []) =
      some ⟨0x00, 0x00, 0x0000, 0x0000, 0x4000, 0x0000, 0x4000, 4, 0⟩ := by decide

/-- 95_test_vectors.md 2.5. -/
theorem test_retC_not_taken :
    afterStep (one [0xD8] (regs 0x00 0x00 0x0000 0x0000 0x0000 0xD000)) (view []) =
      some ⟨0x00, 0x00, 0x0000, 0x0000, 0x0000, 0xD000, 0xC001, 8, 0⟩ := by decide

/-- 95_test_vectors.md 2.5. -/
theorem test_callNcNn :
    afterStep (one [0xD4, 0x34, 0x12] (regs 0x00 0x00 0x0000 0x0000 0x0000 0xD000)) (view [0xCFFF, 0xCFFE]) =
      some ⟨0x00, 0x00, 0x0000, 0x0000, 0x0000, 0xCFFE, 0x1234, 24, 0xC003⟩ := by decide

/-- 95_test_vectors.md 2.5. -/
theorem test_ret :
    afterStep (withBytes (one [0xC9] (regs 0x00 0x00 0x0000 0x0000 0x0000 0xCFFE)) 0xCFFE [0x03, 0xC0]) (view []) =
      some ⟨0x00, 0x00, 0x0000, 0x0000, 0x0000, 0xD000, 0xC003, 16, 0⟩ := by decide

/-- 95_test_vectors.md 2.5. -/
theorem test_rst38 :
    afterStep (one [0xFF] (regs 0x00 0x00 0x0000 0x0000 0x0000 0xD000)) (view [0xCFFF, 0xCFFE]) =
      some ⟨0x00, 0x00, 0x0000, 0x0000, 0x0000, 0xCFFE, 0x0038, 16, 0xC001⟩ := by decide

/-- 95_test_vectors.md 2.5. -/
theorem test_reti :
    afterStep (withBytes (one [0xD9] (regs 0 0 0 0 0 0xCFFE)) 0xCFFE [0x03, 0xC0])
      (fun t => (t.regs.pc, t.regs.sp, t.ime, t.cycles)) = some (0xC003, 0xD000, true, 16) := by decide

/-! ### System (section 2.6) -/

/-- 95_test_vectors.md 2.6. -/
theorem test_nop : afterStep (one [0x00] (regs 0 0 0 0 0 0)) (fun t => (t.regs.pc, t.cycles)) = some (0xC001, 4) := by decide

/-- 95_test_vectors.md 2.6. -/
theorem test_halt :
    afterStep (one [0x76] (regs 0 0 0 0 0 0)) (fun t => (t.regs.pc, t.halted, t.cycles)) = some (0xC001, true, 4) := by decide

/-- 95_test_vectors.md 2.6. -/
theorem test_di :
    afterStep { one [0xF3] (regs 0 0 0 0 0 0) with ime := true, eiDelay := 1 } (fun t => (t.ime, t.eiDelay)) =
      some (false, 0) := by decide

/-- 95_test_vectors.md 2.6: the countdown of EI's own step has run. -/
theorem test_ei :
    afterStep (one [0xFB] (regs 0 0 0 0 0 0)) (fun t => (t.ime, t.eiDelay)) = some (false, 1) := by decide

/-- 95_test_vectors.md 2.6, EI; NOP: the NOP's step dispatches. -/
theorem test_dispatch_after_ei :
    afterStep { one [0x00] (regs 0 0 0 0 0 0xD000) with eiDelay := 1, intEnable := 0x01, intFlag := 0x01 }
      (fun t => ((t.regs.pc, t.ime, t.cycles), t.readByte 0xCFFF, t.readByte 0xCFFE, t.intFlag)) =
      some ((0x0040, false, 24), 0xC0, 0x01, 0x00) := by decide

/-- 95_test_vectors.md 2.6. -/
theorem test_stop :
    afterStep (one [0x10, 0x00] (regs 0 0 0 0 0 0)) (fun t => (t.fatal, t.regs.pc)) =
      some (some { kind := .stop, opcode := 0x10, pc := 0xC000 }, 0xC001) := by decide

/-- 95_test_vectors.md 2.6. -/
theorem test_illegalDD :
    afterStep (one [0xDD] (regs 0 0 0 0 0 0)) (fun t => (t.fatal, t.regs.pc)) =
      some (some { kind := .unassigned, opcode := 0xDD, pc := 0xC000 }, 0xC001) := by decide

/-! ### Interrupts, timer and pixel pipeline (section 2.7) -/

/-- 95_test_vectors.md 2.7, dispatch; S6: the VBlank source first, the timer's request stays. -/
theorem test_dispatch_priority :
    afterStep { withBytes { base with regs := { regs 0 0 0 0 0 0xD000 with pc := 0xC122 } } 0xC122 [0x00] with
        ime := true, intEnable := 0xFF, intFlag := 0x05 }
      (fun t => ((t.regs.pc, t.regs.sp, t.ime, t.cycles), t.readByte 0xCFFF, t.readByte 0xCFFE, t.intFlag)) =
      some ((0x0040, 0xCFFE, false, 24), 0xC1, 0x23, 0x04) := by decide

/-- 95_test_vectors.md 2.7. -/
theorem test_no_dispatch_when_masked :
    afterStep { one [0x00] (regs 0 0 0 0 0 0) with ime := true, intFlag := 0x1F } (fun t => (t.regs.pc, t.intFlag)) =
      some (0xC001, 0x1F) := by decide

/-- S8: the HALT wake without dispatch. -/
theorem test_halt_wake :
    afterStep { base with halted := true, intEnable := 0x04, intFlag := 0x04 }
      (fun t => (t.halted, t.regs.pc, t.intFlag, t.regs.sp, t.cycles)) = some (false, 0xC000, 0x04, 0x0000, 4) := by decide

/-- 95_test_vectors.md 2.7, TIMA overflow. -/
theorem test_tima_overflow :
    let s : State := { base with timer.tac := 0x07, timer.tima := 0xFF, timer.tma := 0xAB }
    (s.advanceTimer 255).timer.tima = 0xFF ∧ ((s.advanceTimer 255).advanceTimer 1).timer.tima = 0xAB ∧
      ((s.advanceTimer 255).advanceTimer 1).intFlag = 0x04 ∧ ((s.advanceTimer 255).advanceTimer 1).timer.div = 0x01 := by
  decide

/-- R402: two increments in one call. -/
theorem test_tima_period_16 :
    let s : State := { base with timer.tac := 0x05, timer.tima := 0xFE, timer.tma := 0x80 }
    (s.advanceTimer 32).timer.tima = 0x80 ∧ (s.advanceTimer 32).intFlag = 0x04 := by decide

/-- 95_test_vectors.md 2.7, timer disabled. -/
theorem test_timer_disabled :
    let s : State := { base with timer.tac := 0x03, timer.tima := 0x10 }
    (s.advanceTimer 4096).timer.tima = 0x10 ∧ (s.advanceTimer 4096).timer.div = 16 ∧
      (s.advanceTimer 4096).timer.timaAcc = 0 := by decide

/-- At the end of HBlank of line 0 (95_test_vectors.md 2.7, LY coincidence, from its last 204 cycles on). -/
theorem test_ly_coincidence :
    let s : State := { base with ppu.lcdc := 0x91, ppu.lyc := 1, ppu.stat := 0x08, ppu.mode := .hblank }
    (s.advancePpu 203).ppu.ly = 0 ∧ (s.advancePpu 203).intFlag = 0 ∧
      ((s.advancePpu 203).advancePpu 1).ppu.ly = 1 ∧ ((s.advancePpu 203).advancePpu 1).intFlag = 0x02 ∧
      ((s.advancePpu 203).advancePpu 1).readByte 0xFF41 = 0x46 := by decide

/-- The entry to VBlank (R410, S12). -/
theorem test_vblank_entry :
    let s : State := { base with ppu.lcdc := 0x91, ppu.ly := 143, ppu.mode := .hblank }
    (s.advancePpu 204).ppu.mode = .vblank ∧ (s.advancePpu 204).ppu.ly = 144 ∧ (s.advancePpu 204).intFlag = 0x01 ∧
      (s.advancePpu 204).ppu.clock = 0 := by decide

/-- S12: 4560 cycles of VBlank, and the pipeline is at line 0 again. -/
theorem test_vblank_end :
    let s : State := { base with ppu.lcdc := 0x91, ppu.ly := 144, ppu.mode := .vblank }
    (s.advancePpu 4560).ppu.mode = .oamScan ∧ (s.advancePpu 4560).ppu.ly = 0 ∧ (s.advancePpu 4560).ppu.clock = 0 := by
  decide

/-- 95_test_vectors.md 2.7, display off. -/
theorem test_display_off :
    let s : State := { base with ppu.lcdc := 0x11, ppu.mode := .drawing, ppu.ly := 40 }
    (s.advancePpu 100).ppu.off = true ∧ (s.advancePpu 100).ppu.ly = 0 ∧ (s.advancePpu 100).ppu.mode = .hblank ∧
      (s.advancePpu 100).ppu.clock = 0 ∧ (s.advancePpu 100).intFlag = 0 := by decide

/-- 95_test_vectors.md 2.7, STAT write and LY write. -/
theorem test_stat_and_ly_writes :
    let s : State := { base with ppu.mode := .drawing, ppu.ly := 5 }
    (s.writeByte 0xFF41 0xFF).readByte 0xFF41 = 0xFF ∧ (s.writeByte 0xFF44 0x99).readByte 0xFF44 = 0x05 := by decide

/-- R420, by hand: LCDC = 0x91, tile 1 at the map's first cell, its first row 0x80 and 0x80 (colour 3 at the left, 0 beside it),
BGP = 0xE4 (shade i for colour i). -/
theorem test_background_pixel :
    let s : State :=
      { base with ppu.lcdc := 0x91, ppu.bgp := 0xE4, vram := [(0x10, 0x80), (0x11, 0x80), (0x1800, 0x01)] }
    s.pixelShade [] 0 0 = 3 ∧ s.pixelShade [] 0 1 = 0 ∧ s.pixelShade [] 0 8 = 0 := by decide

/-- R420: the same picture in the window at WX = 7, and from signed tile data (tile 0x80 at 0x8800). -/
theorem test_window_pixel :
    let s : State :=
      { base with ppu.lcdc := 0xE1, ppu.bgp := 0xE4, ppu.wx := 15
                  vram := [(0x800, 0x80), (0x1000, 0x40), (0x1C00, 0x80)] }
    s.pixelShade [] 0 8 = 1 ∧ s.pixelShade [] 0 9 = 0 ∧ s.pixelShade [] 0 1 = 1 := by decide

/-- R421 to R423: object 0 at (0, 0), flipped in x, tile 2 with row 0x01; opaque at column 0 only; with background priority it
yields to a background shade that is not 0. -/
theorem test_object_pixel :
    let s : State :=
      { base with ppu.lcdc := 0x93, ppu.obp0 := 0xE4, ppu.bgp := 0xE4, vram := [(0x20, 0x01)]
                  oam := [(0, 16), (1, 8), (2, 2), (3, 0x20)] }
    s.pixelShade (s.selectObjects 0) 0 0 = 1 ∧ s.pixelShade (s.selectObjects 0) 0 1 = 0 ∧
      s.selectObjects 8 = [] := by decide

/-! ### Memory and devices (section 2.8) -/

/-- 95_test_vectors.md 2.8, JOYP. -/
theorem test_joypad :
    let s : State := { base with joypInput := 0xEE }
    (s.writeByte 0xFF00 0x20).readByte 0xFF00 = 0xEE ∧ (s.writeByte 0xFF00 0x10).readByte 0xFF00 = 0xDE ∧
      (s.writeByte 0xFF00 0x30).readByte 0xFF00 = 0xFF ∧ (s.writeByte 0xFF00 0x00).readByte 0xFF00 = 0xCE := by decide

/-- A cartridge with the MBC1 controller, 4 ROM banks and 8 KiB of RAM. -/
def mbc1Cart (r : Mbc1) : Cart :=
  { controller := .mbc1 r, romBanks := 4, ramSize := 0x2000, ramBanks := 1
    rom := [(0x0000, 0xC3), (0x4000, 0x11), (0x8000, 0x22), (0xC000, 0x5A)], eram := [] }

/-- S2, P4: the bank register on a cartridge of 4 banks. -/
theorem test_mbc1_banks :
    let read (v : Byte) : Byte :=
      (({ base with cart := mbc1Cart { ramEnable := false, bank1 := 0, bank2 := 0, mode := 0 } } : State).writeByte
        0x2000 v).readByte 0x4000
    read 0x00 = 0x11 ∧ read 0x01 = 0x11 ∧ read 0x03 = 0x5A ∧ read 0x04 = 0xC3 ∧ read 0x05 = 0x11 ∧ read 0x21 = 0x11 := by
  decide

/-- 95_test_vectors.md 2.8, MBC1 RAM. -/
theorem test_mbc1_ram :
    let s : State := { base with cart := mbc1Cart { ramEnable := false, bank1 := 0, bank2 := 0, mode := 0 } }
    s.readByte 0xA000 = 0xFF ∧ (s.writeByte 0xA000 0x12).readByte 0xA000 = 0xFF ∧
      ((s.writeByte 0x0000 0x0A).writeByte 0xA000 0x77).readByte 0xA000 = 0x77 ∧
      ((s.writeByte 0x0000 0x1A).writeByte 0xA000 0x77).readByte 0xA000 = 0x77 := by decide

set_option maxRecDepth 10000 in
/-- S10: OAM DMA. -/
theorem test_oam_dma :
    let s : State := { base with wram := [(0x100, 0x11), (0x19F, 0x22), (0x1A0, 0x33)] }
    (s.writeByte 0xFF46 0xC1).readByte 0xFE00 = 0x11 ∧ (s.writeByte 0xFF46 0xC1).readByte 0xFE9F = 0x22 ∧
      (s.writeByte 0xFF46 0xC1).readByte 0xFE9E = 0x00 ∧ (s.writeByte 0xFF46 0xC1).readByte 0xFF46 = 0xC1 := by decide

/-- S11: the serial port. -/
theorem test_serial :
    let s : State := { base with serial.sb := 0x50 }
    (s.writeByte 0xFF02 0x81).serial.out = [0x50] ∧ (s.writeByte 0xFF02 0x81).readByte 0xFF02 = 0x01 := by decide

/-- 95_test_vectors.md 2.8, boot overlay. -/
theorem test_boot_overlay :
    let s : State := { State.reset with boot := [(0, 0x31)], cart.rom := [(0, 0xC3)], regs.pc := 0x0100 }
    s.readByte 0x0000 = 0x31 ∧ afterStep s (fun t => t.readByte 0x0000) = some 0xC3 := by decide

/-- The invariant's storage predicate refuses a list out of order and a cell that holds 0. -/
theorem test_memory_wf : ¬ Memory.Wf [(1, 1), (0, 1)] ∧ ¬ Memory.Wf [(0, 0)] ∧ Memory.Wf [(0, 1), (1, 1)] := by decide


/-! ### Words written out from the maps of R130 and R131, bit by bit -/

/-- LD r,r' `01 yyy zzz`; LD rr,nn `00 pp0 001`; LDH (n),A; PUSH `11 pp0 101`. -/
theorem test_words_loads :
    decode [0b01_111_000] = .ok (.ldAB, []) ∧ decode [0b00_010_001, 0x34, 0x12] = .ok (.ldDeNn 0x1234, []) ∧
      decode [0b11_100_000, 0x80] = .ok (.ldhAtNA 0x80, []) ∧ decode [0b11_110_101] = .ok (.pushAf, []) := by decide

/-- `10 ooo zzz`, `11 ooo 110`, INC r `00 yyy 100`. -/
theorem test_words_alu8 :
    decode [0b10_011_110] = .ok (.sbcAAtHl, []) ∧ decode [0b11_101_110, 0x0F] = .ok (.xorN 0x0F, []) ∧
      decode [0b00_101_100] = .ok (.incL, []) ∧ decode [0b00_100_111] = .ok (.daa, []) := by decide

/-- ADD HL,rr `00 pp1 001`, INC rr `00 pp0 011`, DEC rr `00 pp1 011`. -/
theorem test_words_alu16 :
    decode [0b00_111_001] = .ok (.addHlSp, []) ∧ decode [0b00_010_011] = .ok (.incDe, []) ∧
      decode [0b00_101_011] = .ok (.decHl, []) ∧ decode [0b11_101_000, 0xFF] = .ok (.addSpE 0xFF, []) := by decide

/-- The CB page: rotates `00 ooo zzz`, BIT `01 bbb zzz`, RES `10 bbb zzz`, SET `11 bbb zzz`. -/
theorem test_words_cb :
    decode [0xCB, 0b00_101_010] = .ok (.sraD, []) ∧ decode [0xCB, 0b01_011_100] = .ok (.bit3H, []) ∧
      decode [0xCB, 0b10_110_110] = .ok (.res6AtHl, []) ∧ decode [0xCB, 0b11_001_011] = .ok (.set1E, []) ∧
      decode [0b00_011_111] = .ok (.rrAcc, []) := by decide

/-- JR cc `00 1cc 000`, JP cc `11 0cc 010`, CALL cc `11 0cc 100`, RET cc `11 0cc 000`, RST `11 yyy 111`. -/
theorem test_words_control :
    decode [0b00_111_000, 0x80] = .ok (.jrCE 0x80, []) ∧ decode [0b11_001_010, 0x34, 0x12] = .ok (.jpZNn 0x1234, []) ∧
      decode [0b11_010_100, 0x34, 0x12] = .ok (.callNcNn 0x1234, []) ∧ decode [0b11_000_000] = .ok (.retNz, []) ∧
      decode [0b11_101_111] = .ok (.rst28, []) := by decide

/-- HALT `01 110 110`, STOP, DI, EI, an unassigned opcode. -/
theorem test_words_system :
    decode [0b01_110_110] = .ok (.halt, []) ∧ decode [0b00_010_000, 0x00] = .ok (.stop, [0x00]) ∧
      decode [0b11_110_011] = .ok (.di, []) ∧ decode [0b11_101_101] = .ok (.illegalED, []) := by decide

/-! ### A state for every statement with hypotheses

Each theorem shows values that meet all the hypotheses of the statement it names, clause by clause, and, where that is short, what
the statement then says of them. -/

/-- DecodeEncode, EncodeDecode. -/
theorem test_witness_DecodeEncode :
    (Instr.callCNn 0x4000).wellFormed = true ∧ decode [0xDC, 0x00, 0x40, 0x00] = .ok (.callCNn 0x4000, [0x00]) := by decide

/-- DaaDecimal at 99 + 99 and 0 - 0. -/
theorem test_witness_DaaDecimal :
    99 < 100 ∧ ({ base with regs.a := 0x99 } : State).regs.a = bcd 99 ∧ 0 < 100 ∧ base.regs.a = bcd 0 := by decide

/-- CallReturns with the stack pointer at both ends of its range and between. -/
theorem test_witness_CallReturns :
    base.wram.Wf ∧
      ([0xC002, 0xD000, 0xE000] : List Word).all (fun sp =>
        0xC002 ≤ ({ base with regs.sp := sp } : State).regs.sp.toNat ∧
          ({ base with regs.sp := sp } : State).regs.sp.toNat ≤ 0xE000) = true := by decide

/-- FatalInstructions, third clause: the NOP and the last assigned opcode. -/
theorem test_witness_FatalInstructions :
    (0x00 : Byte) ∉ ([0x10, 0xD3, 0xDB, 0xDD, 0xE3, 0xE4, 0xEB, 0xEC, 0xED, 0xF4, 0xFC, 0xFD] : List Byte) ∧
      (0xFF : Byte) ∉ ([0x10, 0xD3, 0xDB, 0xDD, 0xE3, 0xE4, 0xEB, 0xEC, 0xED, 0xF4, 0xFC, 0xFD] : List Byte) := by decide

/-- NoStoreFrame: a NOP, and a conditional call that is not taken. -/
theorem test_witness_NoStoreFrame : storedAt .nop base = [] ∧ storedAt (.callZNn 0x1234) base = [] := by decide

/-- StoreFrame: one and two stores, at the ends of work RAM, its echo, object memory, video RAM and high RAM. -/
theorem test_witness_StoreFrame :
    base.vram.Wf ∧ base.wram.Wf ∧ base.oam.Wf ∧ base.hram.Wf ∧
      ([0x8000, 0x9FFE, 0xC000, 0xDFFF, 0xFDFE, 0xFE00, 0xFE9E, 0xFF80, 0xFFFD] : List Word).all (fun nn =>
        (storedAt (.ldAtNnSp nn) base).all (fun w => (regionOf w).isRam)) = true ∧
      (storedAt .ldAtHlA { base with regs.h := 0xC0 }).all (fun w => (regionOf w).isRam) = true := by decide

/-- FlagFrame. -/
theorem test_witness_FlagFrame : writesFlags .ldAB = false ∧ writesFlags (.callZNn 0x1234) = false := by decide

/-- StepRuns, the input and the boot check: an empty queue and one that is not; the overlay removed at 0x0100, kept before it, and
gone already. -/
theorem test_witness_StepRuns_begin :
    base.joypQueue = [] ∧ (base.withInput 0xEE).joypQueue = 0xEE :: [] ∧
      (let s : State := { base with bootActive := true, regs.pc := 0x0100 }
       s.takeInput.bootActive = true ∧ s.takeInput.regs.pc = 0x0100) ∧
      ({ base with bootActive := true, regs.pc := 0x00FF } : State).takeInput.regs.pc ≠ 0x0100 ∧
      base.takeInput.bootActive = false := by decide

/-- StepRuns, the rest: the fetch in work RAM; an instruction there; a state without and one with a Fatal record. -/
theorem test_witness_StepRuns :
    (∀ k : Nat, k < 3 → base.drawsAt (regionOf (base.regs.pc + BitVec.ofNat 16 k)) = false) ∧
      decode (one [0xC3, 0x50, 0x01] base.regs).fetchBytes.1 = .ok (.jpNn 0x0150, []) ∧
      (one [0xC3, 0x50, 0x01] base.regs).fatal = none ∧ (one [0xC3, 0x50, 0x01] base.regs).halted = false ∧
      decode (one [0xC3, 0x50, 0x01] base.regs).beginStep.fetchBytes.1 = .ok (.jpNn 0x0150, []) ∧
      ({ base with fatal := some { kind := .stop, opcode := 0x10, pc := 0 } } : State).fatal ≠ none := by decide

/-- StepOutcome, both clauses. -/
theorem test_witness_StepOutcome :
    ({ base with fatal := some { kind := .stop, opcode := 0x10, pc := 0 } } : State).fatal =
        some { kind := .stop, opcode := 0x10, pc := 0 } ∧
      base.fatal = none := by decide

/-- HaltedStep: with nothing pending, and with a pending request. -/
theorem test_witness_HaltedStep :
    let s : State := { base with halted := true }
    let p : State := { s with intEnable := 0x04, intFlag := 0x04 }
    s.fatal = none ∧ s.halted = true ∧ (({ s.beginStep with cycles := 4 } : State).advance 4).pending = 0 ∧
      p.fatal = none ∧ p.halted = true ∧ (({ p.beginStep with cycles := 4 } : State).advance 4).pending ≠ 0 := by decide

/-- InterruptCheck: the lowest and the highest source with `ime`; the wake; nothing pending; pending but masked by `ime`. -/
theorem test_witness_InterruptCheck :
    let s : State := { base with intEnable := 0x1F, intFlag := 0x1F, ime := true }
    let h : State := { base with intEnable := 0x10, intFlag := 0x10, ime := true }
    (s.ime = true ∧ s.pending ≠ 0 ∧ s.pending.getLsbD 0 = true) ∧
      (h.ime = true ∧ h.pending ≠ 0 ∧ h.pending.getLsbD 4 = true ∧ ∀ j < 4, h.pending.getLsbD j = false) ∧
      (let w : State := { s with ime := false, halted := true }
       w.ime = false ∧ w.halted = true ∧ w.pending ≠ 0) ∧
      base.pending = 0 ∧
      (let m : State := { s with ime := false }
       m.ime = false ∧ m.halted = false ∧ m.pending ≠ 0) := by decide

/-- EiLatency, first clause: the three values of the countdown. -/
theorem test_witness_EiLatency_countdown :
    base.eiDelay = 0 ∧ ({ base with eiDelay := 1 } : State).eiDelay = 1 ∧ 1 < ({ base with eiDelay := 2 } : State).eiDelay := by
  decide

/-- EiLatency, the clauses about EI, the instruction after it, and DI. -/
theorem test_witness_EiLatency_steps :
    (let s := one [0xFB] base.regs
     s.fatal = none ∧ s.halted = false ∧ s.ime = false ∧ s.eiDelay = 0 ∧ s.beginStep.fetch.1 = .ei) ∧
      (let s : State := { one [0x00] base.regs with eiDelay := 1 }
       s.fatal = none ∧ s.halted = false ∧ s.eiDelay = 1 ∧ s.beginStep.fetch.1 = .nop) ∧
      (let s : State := { one [0xF3] base.regs with eiDelay := 1 }
       s.fatal = none ∧ s.halted = false ∧ s.beginStep.fetch.1 = .di) ∧
      Instr.nop ∉ ([.di, .stop, .illegalD3, .illegalDB, .illegalDD, .illegalE3, .illegalE4, .illegalEB, .illegalEC,
        .illegalED, .illegalF4, .illegalFC, .illegalFD] : List Instr) := by decide

/-- BootOverlay, first clause, at both ends; the address after it is outside. -/
theorem test_witness_BootOverlay :
    State.reset.bootActive = true ∧ (0x0000 : Word).toNat < 0x100 ∧ (0x00FF : Word).toNat < 0x100 ∧
      ¬ (0x0100 : Word).toNat < 0x100 := by decide

/-- BootOverlay, StepKeepsLoad, StepKeepsInv: a step with a next state. -/
theorem test_witness_step_next : (∃ t, step State.reset = .next t) ∧ ∃ t, step { State.reset with regs.pc := 0x0100 } = .next t :=
  ⟨⟨_, rfl⟩, ⟨_, rfl⟩⟩

/-- StepKeepsInv, RunKeeps: the common start state is sound. -/
theorem test_witness_StepKeepsInv : base.Inv := by
  refine ⟨?_, ?_, ?_, ?_, ?_, ?_⟩ <;> decide

/-- RunKeeps: a run of two steps. -/
theorem test_witness_RunKeeps : ∃ t, runWith [0xFF, 0xEE] base = .next t := ⟨_, rfl⟩

/-- A cartridge with the MBC3 controller, 4 ROM banks and 32 KiB of RAM. -/
def mbc3Cart (r : Mbc3) : Cart :=
  { controller := .mbc3 r, romBanks := 4, ramSize := 0x8000, ramBanks := 4
    rom := [(0x0000, 0xC3), (0x4000, 0x11), (0x8000, 0x22), (0xC000, 0x5A)], eram := [] }

/-- RomBanking: each controller, each half of the window at its ends, with the overlay and without. -/
theorem test_witness_RomBanking :
    ([0x0100, 0x3FFF, 0x4000, 0x7FFF] : List Word).all (fun a => a.toNat < 0x8000 ∧ 0x100 ≤ a.toNat) = true ∧
      base.bootActive = false ∧ base.cart.controller = .direct ∧
      (mbc1Cart ⟨false, 0, 3, 1⟩).controller = .mbc1 ⟨false, 0, 3, 1⟩ ∧
      (mbc3Cart ⟨false, 2, 0⟩).controller = .mbc3 ⟨false, 2, 0⟩ ∧
      (let s : State := { base with cart := mbc3Cart ⟨false, 2, 0⟩ }
       s.readByte 0x0000 = 0xC3 ∧ s.readByte 0x4000 = 0x22) := by decide

/-- ExternalRam: both ends of the window, and each clause's registers. -/
theorem test_witness_ExternalRam :
    ([0xA000, 0xBFFF] : List Word).all (fun a => 0xA000 ≤ a.toNat ∧ a.toNat < 0xC000) = true ∧
      (let c := mbc1Cart ⟨true, 0, 3, 1⟩
       c.controller = .mbc1 ⟨true, 0, 3, 1⟩ ∧ (⟨true, 0, 3, 1⟩ : Mbc1).ramEnable = true ∧ c.ramSize ≠ 0) ∧
      (⟨false, 0, 0, 0⟩ : Mbc1).ramEnable = false ∧ (⟨false, 0, 0⟩ : Mbc3).ramEnable = false ∧
      (let c := mbc3Cart ⟨true, 0, 3⟩
       c.controller = .mbc3 ⟨true, 0, 3⟩ ∧ (⟨true, 0, 3⟩ : Mbc3).ramBank.toNat ≤ 3 ∧ c.ramSize ≠ 0) ∧
      ({ mbc3Cart ⟨true, 0, 3⟩ with ramSize := 0, ramBanks := 0 } : Cart).ramSize = 0 ∧
      4 ≤ (⟨true, 0, 4⟩ : Mbc3).ramBank.toNat ∧
      (let s : State := { base with cart := mbc3Cart ⟨true, 0, 3⟩ }
       (s.writeByte 0xBFFF 0x77).cart.eram = [(0x7FFF, 0x77)] ∧ (s.writeByte 0xBFFF 0x77).readByte 0xBFFF = 0x77) := by decide

/-- ControllerWrites: the ends of the four register ranges, on each controller. -/
theorem test_witness_ControllerWrites :
    (0x0000 : Word).toNat ≤ 0x1FFF ∧ (0x1FFF : Word).toNat ≤ 0x1FFF ∧
      ([0x2000, 0x3FFF] : List Word).all (fun a => 0x2000 ≤ a.toNat ∧ a.toNat ≤ 0x3FFF) = true ∧
      ([0x4000, 0x5FFF] : List Word).all (fun a => 0x4000 ≤ a.toNat ∧ a.toNat ≤ 0x5FFF) = true ∧
      ([0x6000, 0x7FFF] : List Word).all (fun a => 0x6000 ≤ a.toNat ∧ a.toNat < 0x8000) = true ∧
      base.cart.controller = .direct ∧ (mbc1Cart ⟨false, 0, 0, 0⟩).controller = .mbc1 ⟨false, 0, 0, 0⟩ ∧
      (mbc3Cart ⟨false, 0, 0⟩).controller = .mbc3 ⟨false, 0, 0⟩ := by decide

/-- MemoryMap: the ends of each range; a read that is a draw, and one that is not. -/
theorem test_witness_MemoryMap :
    ([0x8000, 0x9FFF] : List Word).all (fun a => 0x8000 ≤ a.toNat ∧ a.toNat ≤ 0x9FFF) = true ∧
      ([0xC000, 0xDFFF] : List Word).all (fun a => 0xC000 ≤ a.toNat ∧ a.toNat ≤ 0xDFFF) = true ∧
      ([0xE000, 0xFDFF] : List Word).all (fun a => 0xE000 ≤ a.toNat ∧ a.toNat ≤ 0xFDFF) = true ∧
      ([0xFE00, 0xFE9F] : List Word).all (fun a => 0xFE00 ≤ a.toNat ∧ a.toNat ≤ 0xFE9F) = true ∧
      ([0xFEA0, 0xFEFF] : List Word).all (fun a => 0xFEA0 ≤ a.toNat ∧ a.toNat ≤ 0xFEFF) = true ∧
      ([0xFF80, 0xFFFE] : List Word).all (fun a => 0xFF80 ≤ a.toNat ∧ a.toNat ≤ 0xFFFE) = true ∧
      base.drawsAt (regionOf 0xFEA0) = true ∧ base.drawsAt (regionOf 0xFE9F) = false := by decide

/-- RamReadBack: a plain cell of each storage, two regions that differ, and the ends of the two echo clauses. -/
theorem test_witness_RamReadBack :
    base.vram.Wf ∧ base.wram.Wf ∧ base.oam.Wf ∧ base.hram.Wf ∧
      ([0x8000, 0x9FFF, 0xC000, 0xDFFF, 0xE000, 0xFDFF, 0xFE00, 0xFE9F, 0xFF80, 0xFFFE] : List Word).all
        (fun a => (regionOf a).isRam) = true ∧
      regionOf 0xC000 ≠ regionOf 0xC001 ∧
      ([0xC000, 0xDDFF] : List Word).all (fun a => 0xC000 ≤ a.toNat ∧ a.toNat ≤ 0xDDFF) = true ∧
      ([0xE000, 0xFDFF] : List Word).all (fun a => 0xE000 ≤ a.toNat ∧ a.toNat ≤ 0xFDFF) = true := by decide

/-- IoRegisters: the two serial clauses, and the first and last plain cells. -/
theorem test_witness_IoRegisters :
    (0x81 : Byte)[7] = true ∧ (0x7F : Byte)[7] = false ∧
      ([0xFF03, 0xFF7F] : List Word).all (fun a => 0xFF00 ≤ a.toNat ∧ a.toNat ≤ 0xFF7F ∧
          a.toNat ∉ [0xFF00, 0xFF01, 0xFF02, 0xFF04, 0xFF05, 0xFF06, 0xFF07, 0xFF0F, 0xFF40, 0xFF41, 0xFF42, 0xFF43,
            0xFF44, 0xFF45, 0xFF46, 0xFF47, 0xFF48, 0xFF49, 0xFF4A, 0xFF4B]) = true ∧
      (base.writeByte 0xFF03 0x12).readByte 0xFF03 = 0x12 ∧ (base.writeByte 0xFF7F 0x12).readByte 0xFF7F = 0x12 := by decide

/-- OamDma: a source in work RAM; a source that is a draw (an MBC3 selection that is not RAM, and 0xFE00's page is not one). -/
theorem test_witness_OamDma :
    base.oam.Wf ∧ base.drawsAt (regionOf 0xC100) = false ∧ base.drawsAt (regionOf 0xFE00) = false ∧
      ({ base with cart := mbc3Cart ⟨true, 0, 8⟩ } : State).drawsAt (regionOf 0xA000) = true ∧ 0 < 160 ∧ 159 < 160 ∧
      160 ≤ 160 := by decide

/-- TimerAdvance: each clause at a boundary; the accumulator may be several periods long after a write to TAC (R401). -/
theorem test_witness_TimerAdvance :
    let on : State := { base with timer.tac := 0x05, timer.timaAcc := 15, timer.divAcc := 255 }
    let p := [1024, 16, 64, 256].getD (on.timer.tac &&& 3).toNat 0
    on.timer.divAcc < 256 ∧ base.timer.tac[2] = false ∧ on.timer.tac[2] = true ∧ on.timer.timaAcc + 0 < p ∧
      p ≤ on.timer.timaAcc + 1 ∧ p ≤ ({ on with timer.timaAcc := 1000 } : State).timer.timaAcc + 4 ∧
      (let s : State := { base with timer.tac := 0x05, timer.tima := 0xFE, timer.tma := 0x80 }
       s.timer.tac = 0x05 ∧ s.timer.tima = 0xFE ∧ s.timer.tma = 0x80 ∧ s.timer.timaAcc = 0 ∧
         (s.advanceTimer 32).timer.tima = 0x80 ∧ (s.advanceTimer 32).intFlag[2] = true) := by decide

/-- PpuTransitions: the display off, just enabled, and each transition. -/
theorem test_witness_PpuTransitions :
    let on : State := { base with ppu.lcdc := 0x80 }
    base.ppu.lcdc[7] = false ∧ on.ppu.lcdc[7] = true ∧ on.ppu.off = false ∧
      ({ on with ppu.off := true } : State).ppu.off = true ∧ on.ppu.mode = .oamScan ∧ on.ppu.clock + 79 < 80 ∧
      80 ≤ on.ppu.clock + 80 ∧ ({ on with ppu.mode := .drawing } : State).ppu.mode = .drawing ∧
      ({ on with ppu.mode := .hblank, ppu.ly := 142 } : State).ppu.ly + 1 ≠ 144 ∧
      ({ on with ppu.mode := .hblank, ppu.ly := 143 } : State).ppu.ly + 1 = 144 ∧
      ({ on with ppu.mode := .vblank, ppu.ly := 152 } : State).ppu.ly ≠ 153 ∧
      ({ on with ppu.mode := .vblank, ppu.ly := 153 } : State).ppu.ly = 153 ∧
      (PpuMode.oamScan, 5) ∈ [(PpuMode.hblank, 3), (PpuMode.vblank, 4), (PpuMode.oamScan, 5)] := by decide

/-- PpuFrame. -/
theorem test_witness_PpuFrame :
    let on : State := { base with ppu.lcdc := 0x80 }
    on.ppu.Ok ∧ on.ppu.lcdc[7] = true ∧ on.ppu.off = false ∧ [70000, 224].sum = 70224 := by decide

/-- RenderLine: all layers disabled; the background, each way the window is not shown; the window at the first line and column it
covers, and at the last ones of the screen. -/
theorem test_witness_RenderLine :
    let off : State := base
    let bg : State := { base with ppu.lcdc := 0x91 }
    let win : State := { base with ppu.lcdc := 0xB1, ppu.wy := 1, ppu.wx := 8 }
    off.ppu.lcdc[0] = false ∧ off.ppu.lcdc[1] = false ∧ bg.ppu.lcdc[0] = true ∧ bg.ppu.lcdc[1] = false ∧
      bg.ppu.lcdc[5] = false ∧ win.ppu.lcdc[0] = true ∧ win.ppu.lcdc[1] = false ∧ win.ppu.lcdc[5] = true ∧
      0 < win.ppu.wy.toNat ∧ 0 + 7 < win.ppu.wx.toNat ∧ win.ppu.wy.toNat ≤ 1 ∧ win.ppu.wx.toNat ≤ 1 + 7 ∧
      win.ppu.wy.toNat ≤ 143 ∧ win.ppu.wx.toNat ≤ 159 + 7 ∧ 143 < 144 ∧ 159 < 160 := by decide

/-- A line with tiles 0 and 2 solid (colour index 3), and entry 0 of OAM at the top left, by its X byte and its flags. -/
def sprites (x flags : Byte) : State :=
  withBytes (withBytes (withBytes { base with ppu.lcdc := 0x93, ppu.bgp := 0xE4, ppu.obp0 := 0x40, ppu.obp1 := 0x80 } 0x8000
    [0xFF, 0xFF]) 0x8020 [0xFF, 0xFF]) 0xFE00 [16, x, 2, flags]

/-- RenderObjects: the last entry; objects disabled and enabled; the first and last row and column of an object; an object that shows,
behind one that does not, and a column where none does. -/
theorem test_witness_RenderObjects :
    let s := sprites 8 0
    let o := s.objEntry 0
    39 < 40 ∧ ({ s with ppu.lcdc := 0x91 } : State).ppu.lcdc[1] = false ∧ s.ppu.lcdc[1] = true ∧
      (o.y.toNat ≤ 0 + 16 ∧ 0 + 16 < o.y.toNat + 8 ∧ o.x.toNat ≤ 0 + 8 ∧ 0 < o.x.toNat) ∧
      (o.y.toNat ≤ 7 + 16 ∧ 7 + 16 < o.y.toNat + 8 ∧ o.x.toNat ≤ 7 + 8 ∧ 7 < o.x.toNat) ∧
      [s.objEntry 1, o] = [s.objEntry 1] ++ o :: [] ∧ ¬ ((s.objEntry 1).x.toNat ≤ 0 + 8 ∧ 0 < (s.objEntry 1).x.toNat) ∧
      (o.x.toNat ≤ 7 + 8 ∧ 7 < o.x.toNat ∧ s.objPixel o 0 7 ≠ 0) ∧ ¬ (8 < o.x.toNat) := by decide

/-- R422, R423: the shade of column 0 by the flags: OBP0, OBP1, and behind a background of shade 3; column 8 shows the background. -/
theorem test_object_shades :
    (sprites 8 0x00).pixelShade [(sprites 8 0x00).objEntry 0] 0 0 = 1 ∧
      (sprites 8 0x10).pixelShade [(sprites 8 0x10).objEntry 0] 0 0 = 2 ∧
      (sprites 8 0x80).pixelShade [(sprites 8 0x80).objEntry 0] 0 0 = 3 ∧
      (sprites 8 0x00).pixelShade [(sprites 8 0x00).objEntry 0] 0 8 = 3 := by decide

/-- R421: entry 0 at X byte 20 comes after entries 1 and 2 at X byte 8, which keep OAM order; entry 3 is off the line. -/
theorem test_object_order :
    let s := withBytes (sprites 20 0) 0xFE04 [16, 8, 2, 0, 9, 8, 2, 0, 17, 8, 2, 0]
    s.selectObjects 0 = [s.objEntry 1, s.objEntry 2, s.objEntry 0] := by decide

/-- ResetValues, LoadGeometry, LoadInv: the smallest image loads (Laws/Load.lean). -/
theorem test_witness_load :
    load (List.replicate 0x8000 0) (List.replicate 0x100 0) ⟨[], [], [], [], []⟩ = .ok State.reset := load_reset

/-- LoadInv: its INIT_MEM is canonical and inside its storages. -/
theorem test_witness_LoadInv :
    let m : Memory := []
    m.Wf ∧ m.Within 0x2000 ∧ m.Within 0xA0 ∧ m.Within 0x7F ∧ m.Within State.reset.cart.eramSize := by decide

/-- LoadGeometry: the two refusals. -/
theorem test_witness_LoadGeometry : ([] : List Byte).length ≠ 256 ∧ ([] : List Byte).length < 0x150 := by decide


end Sys2Proof.Tests
end

section
/-! PROOF. RenderLine (R420, R425): what a column of a line shows, with the tile bytes as the CPU reads them. -/

namespace Sys2Proof.Machine

/-! ### The colour of a column -/

/-- A column of a rendered line holds SHADE_RGBA of its shade (R7). -/
theorem State.renderLine_read_colour (s : State) (ly : Nat) {x k : Nat} (hx : x < 160) (hk : k < 4) :
    (s.renderLine ly).ppu.framebuffer.read ((ly * 160 + x) * 4 + k) =
      if k = 3 then 0xFF else 0xFF - 0x55 * BitVec.ofNat 8 (s.pixelShade (s.selectObjects ly) ly x) :=
  (s.renderLine_read ly hx hk).trans (shadeRgba_getD _ k (s.pixelShade_lt _ ly x) hk)

/-! ### The branches of a background column -/

theorem State.bgShade_of_disabled (s : State) (ly x : Nat) (h : s.ppu.lcdc[0] = false) : s.bgShade ly x = 0 := if_pos h

theorem State.bgShade_of_inWindow (s : State) (ly x : Nat) (h : s.ppu.lcdc[0] = true) (hw : s.inWindow ly x = true) :
    s.bgShade ly x = paletteShade s.ppu.bgp
      (s.mapPixel (if s.ppu.lcdc[6] = true then 0x9C00 else 0x9800) (x + 7 - s.ppu.wx.toNat) (ly - s.ppu.wy.toNat)) := by
  simp [State.bgShade, h, hw]

theorem State.bgShade_of_not_inWindow (s : State) (ly x : Nat) (h : s.ppu.lcdc[0] = true) (hw : s.inWindow ly x = false) :
    s.bgShade ly x = paletteShade s.ppu.bgp
      (s.mapPixel (if s.ppu.lcdc[3] = true then 0x9C00 else 0x9800) ((x + s.ppu.scx.toNat) % 256)
        ((ly + s.ppu.scy.toNat) % 256)) := by
  simp [State.bgShade, h, hw]

theorem State.inWindow_eq_true (s : State) (ly x : Nat) :
    s.inWindow ly x = true ↔ s.ppu.lcdc[5] = true ∧ s.ppu.wy.toNat ≤ ly ∧ s.ppu.wx.toNat ≤ x + 7 := by
  simp [State.inWindow, and_assoc]

theorem State.inWindow_eq_false (s : State) (ly x : Nat) :
    s.inWindow ly x = false ↔ s.ppu.lcdc[5] = false ∨ ly < s.ppu.wy.toNat ∨ x + 7 < s.ppu.wx.toNat := by
  rw [← Bool.not_eq_true, State.inWindow_eq_true, not_and_or, not_and_or, Bool.not_eq_true, not_le, not_le]

/-! ### A pixel of a tile map, by memory reads -/

/-- The shade of pixel (px, py) of the tile map at `map` as R420 computes it, each VRAM byte read at its CPU address. -/
def State.mapShadeRead (s : State) (map px py : Nat) : Nat :=
  let t := s.readByte (BitVec.ofNat 16 (map + py / 8 * 32 + px / 8))
  let base : Word := if s.ppu.lcdc[4] = true then 0x8000 + 16 * t.setWidth 16 else 0x9000 + 16 * t.signExtend 16
  let lo := s.readByte (base + 2 * BitVec.ofNat 16 (py % 8))
  let hi := s.readByte (base + 2 * BitVec.ofNat 16 (py % 8) + 1)
  let ci := 2 * (hi.getLsbD (7 - px % 8)).toNat + (lo.getLsbD (7 - px % 8)).toNat
  ((s.ppu.bgp >>> (2 * ci)) &&& 3).toNat

/-- The 32 by 32 entries of a tile map lie in VRAM. -/
theorem State.readByte_tileMap (s : State) {map px py : Nat} (hm : map = 0x9C00 ∨ map = 0x9800) (hx : px < 256) (hy : py < 256) :
    s.readByte (BitVec.ofNat 16 (map + py / 8 * 32 + px / 8)) = s.vramAt (map + py / 8 * 32 + px / 8) := by
  have ha : (BitVec.ofNat 16 (map + py / 8 * 32 + px / 8)).toNat = map + py / 8 * 32 + px / 8 := by
    rw [BitVec.toNat_ofNat]; omega
  rw [s.readByte_vramAt (by omega) (by omega), ha]

/-- The two bytes of a tile row lie in VRAM. -/
theorem State.readByte_tileRow (s : State) (t : Byte) {row : Nat} (h : row < 8) :
    let a : Word := (if s.ppu.lcdc[4] = true then 0x8000 + 16 * t.setWidth 16 else 0x9000 + 16 * t.signExtend 16) +
      2 * BitVec.ofNat 16 row
    s.readByte a = s.vramAt (s.tileRow t row) ∧ s.readByte (a + 1) = s.vramAt (s.tileRow t row + 1) := by
  intro a
  obtain ⟨ha, hlo, hhi⟩ : a.toNat = _ ∧ _ := s.tileRow_toNat t h
  have ha1 : (a + 1).toNat = s.tileRow t row + 1 := by
    rw [BitVec.toNat_add, ha, show (1 : Word).toNat = 1 from rfl]
    omega
  exact ⟨by rw [s.readByte_vramAt (by omega) (by omega), ha], by rw [s.readByte_vramAt (by omega) (by omega), ha1]⟩

/-- Inside a tile map the renderer's direct VRAM reads are memory reads. -/
theorem State.paletteShade_mapPixel (s : State) {map px py : Nat} (hm : map = 0x9C00 ∨ map = 0x9800) (hx : px < 256)
    (hy : py < 256) : paletteShade s.ppu.bgp (s.mapPixel map px py) = s.mapShadeRead map px py := by
  obtain ⟨hlo, hhi⟩ := s.readByte_tileRow (s.vramAt (map + py / 8 * 32 + px / 8)) (Nat.mod_lt py (by decide : 0 < 8))
  simp only [State.mapShadeRead, s.readByte_tileMap hm hx hy, hlo, hhi, paletteShade_eq, State.mapPixel, colourIndex]

/-! ### The obligation -/

/-- Settles O53: the frame and the colours by the renderer's framebuffer laws, the background's shade by its branches, in each of which
the pixel stays inside its 256 by 256 tile map. -/
theorem renderLine : Obligations.RenderLine := by
  refine ⟨fun s ly => ⟨rfl, fun off h => s.renderLine_read_other h, fun hbg hobj x k hx hk => ?white⟩,
    fun s ly x hly hx => ⟨s.bgShade_of_disabled ly x, fun hbg h5 hwy hwx => ?window, fun hbg hw => ?background,
      fun k hk => s.renderLine_read_colour ly hx hk, fun hobj k hk => ?noObjects⟩⟩
  case white =>
    rw [s.renderLine_read_colour ly hx hk, s.pixelShade_of_disabled ly x hobj, s.bgShade_of_disabled ly x hbg]
    exact ite_self _
  case window =>
    rw [s.bgShade_of_inWindow ly x hbg ((s.inWindow_eq_true ly x).2 ⟨h5, hwy, hwx⟩)]
    exact s.paletteShade_mapPixel (ite_eq_or_eq _ _ _) (by omega) (by omega)
  case background =>
    rw [s.bgShade_of_not_inWindow ly x hbg ((s.inWindow_eq_false ly x).2 hw)]
    exact s.paletteShade_mapPixel (ite_eq_or_eq _ _ _) (Nat.mod_lt _ (by decide)) (Nat.mod_lt _ (by decide))
  case noObjects => rw [s.renderLine_read_colour ly hx hk, s.pixelShade_of_disabled ly x hobj]

end Sys2Proof.Machine
end

section
/-! PROOF. The step as a whole (R350, R352, R390): what it answers, said once (`step_cases`), and that it keeps the invariant. -/

namespace Sys2Proof.Machine

/-! ### What a step answers -/

theorem step_of_fatal {s : State} {record : FatalRecord} (h : s.fatal = some record) :
    step s = .fault (.fatalState record) := by simp only [step, h]

theorem step_of_halted {s : State} (hf : s.fatal = none) (hh : s.beginStep.halted = true) :
    step s = .next s.beginStep.haltedStep := by simp only [step, hf, hh, if_true]

theorem step_of_exec {s u : State} (hf : s.fatal = none) (hh : s.beginStep.halted = false)
    (he : exec s.beginStep.fetch.1 s.beginStep.fetch.2 = .next u) : step s = .next u.finishStep := by
  simp only [step, hf, hh, he, Bool.false_eq_true, if_false]

/-- A step with a next state is a halted step, or runs the instruction at PC and finishes. -/
theorem step_cases {s t : State} (h : step s = .next t) :
    s.fatal = none ∧
      ((s.beginStep.halted = true ∧ t = s.beginStep.haltedStep) ∨
        s.beginStep.halted = false ∧
          ∃ u, exec s.beginStep.fetch.1 s.beginStep.fetch.2 = .next u ∧ t = u.finishStep) := by
  cases hf : s.fatal with
  | some record => simp [step_of_fatal hf] at h
  | none =>
    refine ⟨rfl, ?_⟩
    cases hh : s.beginStep.halted with
    | true =>
      rw [step_of_halted hf hh] at h
      exact .inl ⟨rfl, (Host.Outcome.next.inj h).symm⟩
    | false =>
      obtain ⟨u, hu, -⟩ := exec_shape s.beginStep.fetch.1 s.beginStep.fetch.2
      rw [step_of_exec hf hh hu] at h
      exact .inr ⟨rfl, u, hu, (Host.Outcome.next.inj h).symm⟩

/-- The form of an instruction's next state. -/
theorem shape_of_exec {i : Instr} {s t : State} (h : exec i s = .next t) : Shape s t := by
  obtain ⟨t', ht', hs⟩ := exec_shape i s
  rw [ht'] at h
  exact Host.Outcome.next.inj h ▸ hs

/-- Settles O36: a Fatal record is the fault; without one, `exec_shape` gives the instruction a next state. -/
theorem stepOutcome : Obligations.StepOutcome := by
  refine ⟨fun s record h => step_of_fatal h, fun s hf => ?_⟩
  cases hh : s.beginStep.halted with
  | true => exact ⟨_, step_of_halted hf hh⟩
  | false =>
    obtain ⟨u, hu, -⟩ := exec_shape s.beginStep.fetch.1 s.beginStep.fetch.2
    exact ⟨_, step_of_exec hf hh hu⟩

/-! ### The invariant -/

theorem State.fetch_inv {s : State} (h : s.Inv) : s.fetch.2.Inv := by
  rw [State.fetch_eq]
  exact h

/-- A Fatal condition stores nothing, so even the bound of TIMA's accumulator stays. -/
theorem State.raiseFatal_inv {s : State} (h : s.Inv) (kind : FatalKind) (opcode : Byte) : (s.raiseFatal kind opcode).Inv := h

theorem State.haltedStep_inv {s : State} (h : s.Inv) : s.haltedStep.Inv :=
  State.interruptPhase_inv (State.advance_inv ((State.spend_midInv s _).mpr h.mid) _)

/-- An instruction keeps the Fatal record, or raises one and does nothing else. -/
theorem Shape.fatal_cases {s t : State} (h : Shape s t) : t.fatal = s.fatal ∨ ∃ kind opcode, t = s.raiseFatal kind opcode := by
  cases h with
  | regs r n => exact .inl rfl
  | read a u h r n => exact .inl (by simp [h])
  | read2 a b u h r n => exact .inl (by simp [h])
  | write a v u h r n => exact .inl (by simp [h])
  | write2 a v b w u h r n => exact .inl (by simp [h])
  | readWrite a v u h r n => exact .inl (by simp [h])
  | control r n ime halted eiDelay h hi => exact .inl rfl
  | reti a b u h r n => exact .inl (by simp [h])
  | fatal kind opcode => exact .inr ⟨kind, opcode, rfl⟩

theorem State.finishStep_inv_of_running {s : State} (h : s.MidInv) (hf : s.fatal = none) : s.finishStep.Inv := by
  rw [State.finishStep, if_pos hf]
  exact State.interruptPhase_inv (State.advance_inv (State.eiCountdown_midInv h) _)

theorem State.finishStep_raiseFatal (s : State) (kind : FatalKind) (opcode : Byte) :
    (s.raiseFatal kind opcode).finishStep = s.raiseFatal kind opcode := if_neg (by simp [State.raiseFatal])

/-- The rest of a step restores the whole invariant: the advance of the devices does, and a Fatal condition never left it. -/
theorem Shape.finishStep_inv {s t : State} (hs : s.Inv) (hf : s.fatal = none) (h : Shape s t) : t.finishStep.Inv := by
  obtain ht | ⟨kind, opcode, rfl⟩ := h.fatal_cases
  · exact State.finishStep_inv_of_running (h.midInv hs.mid) (ht.trans hf)
  · rw [State.finishStep_raiseFatal]
    exact State.raiseFatal_inv hs kind opcode

theorem State.fetch_beginStep_fatal (s : State) : s.beginStep.fetch.2.fatal = s.fatal := by
  rw [State.fetch_eq, State.beginStep_eq]

/-- Settles O58: by the two forms of a step; the instruction keeps `State.MidInv`, and the end of the step restores `State.Inv`. -/
theorem stepKeepsInv : Obligations.StepKeepsInv := by
  intro s t hs h
  obtain ⟨hf, ⟨-, rfl⟩ | ⟨-, u, hu, rfl⟩⟩ := step_cases h
  · exact State.haltedStep_inv (State.beginStep_inv hs)
  · exact (shape_of_exec hu).finishStep_inv (State.fetch_inv (State.beginStep_inv hs)) (s.fetch_beginStep_fatal.trans hf)

end Sys2Proof.Machine
end

section
/-! PROOF. What was loaded (R37, R84, R70) and the serial output (R39) along a step, and the state that a load creates (R453). -/

namespace Sys2Proof.Machine

/-! ### What was loaded -/

/-- Which controller it is, without its registers (R34). -/
def Controller.kind : Controller → Fin 3
  | .direct => 0
  | .mbc1 _ => 1
  | .mbc3 _ => 2

/-- A controller register write keeps the controller (R86 to R88). -/
@[simp] theorem Controller.write_kind (off : Nat) (v : Byte) (c : Controller) : (c.write off v).kind = c.kind := by
  cases c <;> simp only [Controller.write] <;> split_ifs <;> rfl

/-- What a load fixes: the boot program, the ROM image, the geometry and the kind of the controller. -/
def State.loaded (s : State) : Memory × Memory × Nat × Nat × Nat × Fin 3 :=
  (s.boot, s.cart.rom, s.cart.romBanks, s.cart.ramSize, s.cart.ramBanks, s.cart.controller.kind)

theorem sameCartridge_iff (s t : State) : SameCartridge s t ↔ t.loaded = s.loaded := by
  simp only [SameCartridge, State.loaded, Prod.mk.injEq]
  cases s.cart.controller <;> cases t.cart.controller <;> simp [Controller.kind]

theorem State.writeEram_loaded (s : State) (off : Nat) (v : Byte) : (s.writeEram off v).loaded = s.loaded := by
  unfold State.writeEram; split <;> rfl

theorem State.writeIo_loaded (s : State) (v : Byte) (r : IoReg) : (s.writeIo v r).loaded = s.loaded := by
  cases r
  case dma => simp [State.writeIo, State.loaded]
  case sc => simp only [State.writeIo]; split <;> rfl
  all_goals rfl

theorem State.writeByte_loaded (s : State) (a : Word) (v : Byte) : (s.writeByte a v).loaded = s.loaded := by
  unfold State.writeByte
  cases regionOf a
  case rom off => simp [State.writeRegion, State.loaded]
  case eram off => exact s.writeEram_loaded off v
  case io r => exact s.writeIo_loaded v r
  all_goals rfl

theorem State.writeEram_serial (s : State) (off : Nat) (v : Byte) : (s.writeEram off v).serial = s.serial := by
  unfold State.writeEram; split <;> rfl

/-- Of all I/O writes only one to SC emits a byte (R93). -/
theorem State.writeIo_serial_out (s : State) (v : Byte) (r : IoReg) : s.serial.out <+: (s.writeIo v r).serial.out := by
  cases r
  case dma => simp [State.writeIo]
  case sc => simp only [State.writeIo]; split <;> simp
  all_goals rfl

theorem State.writeByte_serial_out (s : State) (a : Word) (v : Byte) : s.serial.out <+: (s.writeByte a v).serial.out := by
  unfold State.writeByte
  cases regionOf a
  case eram off => simp [State.writeRegion, State.writeEram_serial]
  case io r => exact s.writeIo_serial_out v r
  all_goals rfl

/-! ### Along a step -/

/-- `t` has what `s` has loaded, and its serial output continues that of `s`. -/
structure KeepsLoad (s t : State) : Prop where
  loaded : t.loaded = s.loaded
  out : s.serial.out <+: t.serial.out

theorem KeepsLoad.of_eq {s t : State} (hb : t.boot = s.boot) (hc : t.cart = s.cart) (hs : t.serial = s.serial) :
    KeepsLoad s t :=
  ⟨by simp only [State.loaded, hb, hc], by rw [hs]⟩

theorem KeepsLoad.trans {s t u : State} (h : KeepsLoad s t) (h' : KeepsLoad t u) : KeepsLoad s u :=
  ⟨h'.loaded.trans h.loaded, h.out.trans h'.out⟩

theorem keepsLoad_writeByte (s : State) (a : Word) (v : Byte) : KeepsLoad s (s.writeByte a v) :=
  ⟨s.writeByte_loaded a v, s.writeByte_serial_out a v⟩

theorem keepsLoad_spend (s : State) (c : Nat) : KeepsLoad s (s.spend c) := .of_eq rfl rfl rfl

theorem keepsLoad_advance (s : State) (c : Nat) : KeepsLoad s (s.advance c) := .of_eq (by simp) (by simp) (by simp)

theorem keepsLoad_push16 (s : State) (v : Word) : KeepsLoad s (s.push16 v) :=
  ((keepsLoad_writeByte s _ _).trans (keepsLoad_writeByte _ _ _)).trans (.of_eq rfl rfl rfl)

theorem keepsLoad_dispatch (s : State) (i : Nat) : KeepsLoad s (s.dispatch i) :=
  (keepsLoad_push16 s s.regs.pc).trans (.of_eq rfl rfl rfl)

theorem keepsLoad_interruptPhase (s : State) : KeepsLoad s s.interruptPhase := by
  obtain h | h | ⟨i, h⟩ := s.interruptPhase_cases <;> rw [h]
  · exact .of_eq rfl rfl rfl
  · exact .of_eq rfl rfl rfl
  · exact ((keepsLoad_dispatch s i).trans (keepsLoad_spend _ _)).trans (keepsLoad_advance _ _)

theorem keepsLoad_eiCountdown (s : State) : KeepsLoad s s.eiCountdown := by
  unfold State.eiCountdown; split <;> exact .of_eq rfl rfl rfl

theorem keepsLoad_finishStep (s : State) : KeepsLoad s s.finishStep := by
  unfold State.finishStep
  split
  · exact ((keepsLoad_eiCountdown s).trans (keepsLoad_advance _ _)).trans (keepsLoad_interruptPhase _)
  · exact .of_eq rfl rfl rfl

theorem keepsLoad_beginStep (s : State) : KeepsLoad s s.beginStep := by
  rw [State.beginStep_eq]; exact .of_eq rfl rfl rfl

theorem keepsLoad_fetch (s : State) : KeepsLoad s s.fetch.2 := by
  rw [State.fetch_eq]; exact .of_eq rfl rfl rfl

theorem keepsLoad_haltedStep (s : State) : KeepsLoad s s.haltedStep :=
  ((keepsLoad_spend s _).trans (keepsLoad_advance _ _)).trans (keepsLoad_interruptPhase _)

/-- A transitive relation that every read, every write and every update of the CPU's own state keeps holds between the two ends of
an instruction. -/
theorem Shape.lift {R : State → State → Prop} (htrans : ∀ {a b c}, R a b → R b c → R a c)
    (hread : ∀ s a, R s (s.afterRead a)) (hwrite : ∀ s a v, R s (s.writeByte a v))
    (hcpu : ∀ (s : State) r n ime eiDelay halted fatal, R s { s with
      regs := r, cycles := n, ime := ime, eiDelay := eiDelay, halted := halted, fatal := fatal })
    {s t : State} (h : Shape s t) : R s t := by
  cases h with
  | regs r n => exact hcpu s r n _ _ _ _
  | read a u h r n => exact htrans (h ▸ hread s a) (hcpu u r n _ _ _ _)
  | read2 a b u h r n => exact htrans (h ▸ htrans (hread s a) (hread _ b)) (hcpu u r n _ _ _ _)
  | write a v u h r n => exact htrans (h ▸ hwrite s a v) (hcpu u r n _ _ _ _)
  | write2 a v b w u h r n => exact htrans (h ▸ htrans (hwrite s a v) (hwrite _ b w)) (hcpu u r n _ _ _ _)
  | readWrite a v u h r n => exact htrans (h ▸ htrans (hread s a) (hwrite _ a v)) (hcpu u r n _ _ _ _)
  | control r n ime halted eiDelay h hi => exact hcpu s r n ime eiDelay halted _
  | reti a b u h r n => exact htrans (h ▸ htrans (hread s a) (hread _ b)) (hcpu u r n true _ _ _)
  | fatal kind opcode => exact hcpu s _ _ _ _ _ _

theorem Shape.keepsLoad {s t : State} (h : Shape s t) : KeepsLoad s t :=
  h.lift (R := KeepsLoad) KeepsLoad.trans (fun s a => .of_eq (s.afterRead_boot a) (s.afterRead_cart a) (s.afterRead_serial a))
    keepsLoad_writeByte (fun _ _ _ _ _ _ _ => .of_eq rfl rfl rfl)

/-- Settles O41: each part of a step keeps what was loaded and only appends to the serial output, and these compose. -/
theorem stepKeepsLoad : Obligations.StepKeepsLoad := by
  intro s t h
  have hk : KeepsLoad s t := by
    obtain ⟨-, ⟨-, rfl⟩ | ⟨-, u, hu, rfl⟩⟩ := step_cases h
    · exact (keepsLoad_beginStep s).trans (keepsLoad_haltedStep _)
    · exact (((keepsLoad_beginStep s).trans (keepsLoad_fetch _)).trans (shape_of_exec hu).keepsLoad).trans
        (keepsLoad_finishStep u)
  obtain ⟨bytes, hb⟩ := hk.out
  exact ⟨(sameCartridge_iff s t).mpr hk.loaded, bytes, hb.symm⟩

/-! ### Cartridge load (R453) -/

/-- What a load that succeeds has found, and the state it creates. -/
theorem load_cases {cart boot : List Byte} {init : InitMem} {s : State} (h : load cart boot init = .ok s) :
    boot.length = 0x100 ∧ ∃ controller romBanks ramSize,
      selectController (cart.getD 0x147 0) = some controller ∧ romBanksOf (cart.getD 0x148 0) = some romBanks ∧
      (controller = .direct → cart.getD 0x148 0 = 0) ∧ cart.length = romBanks * 0x4000 ∧
      ramSizeOf (cart.getD 0x149 0) = some ramSize ∧
      s = State.afterLoad
        { controller := controller, romBanks := romBanks, ramSize := ramSize, ramBanks := ramBanksOf ramSize
          rom := Memory.ofBytes cart, eram := [] }
        (Memory.ofBytes boot) (cart.getD 0x14D 0) init := by
  unfold load at h
  split at h; · cases h
  rename_i hboot
  split at h; · cases h
  split at h; · cases h
  rename_i controller hcontroller
  split at h; · cases h
  rename_i romBanks hrom
  split at h; · cases h
  rename_i hdirect
  split at h; · cases h
  rename_i hlength
  split at h; · cases h
  rename_i ramSize hram
  cases h
  exact ⟨not_not.mp hboot, controller, romBanks, ramSize, hcontroller, hrom, fun hc => not_not.mp fun hz => hdirect ⟨hc, hz⟩,
    not_not.mp hlength, hram, rfl⟩

/-- The geometry of a load is one of R85's, and the image fits it. -/
theorem load_cart_ok {cart boot : List Byte} {init : InitMem} {s : State} (h : load cart boot init = .ok s)
    (he : init.eram.Wf ∧ init.eram.Within s.cart.eramSize) : s.cart.Ok := by
  obtain ⟨-, controller, romBanks, ramSize, -, hrom, hdirect, hlength, hram, rfl⟩ := load_cases h
  refine ⟨fun hc => ?_, romBanksOf_mem hrom, ramSizeOf_mem hram, rfl, ⟨Memory.ofBytes_wf cart, ?_⟩, he⟩
  · rw [hdirect hc] at hrom
    exact (Option.some.inj hrom).symm
  · exact hlength ▸ Memory.ofBytes_within cart

/-- The devices at reset (R450) are inside their ranges. -/
theorem State.afterLoad_devices_ok (cart : Cart) (boot : Memory) (checksum : Byte) (init : InitMem) :
    (State.afterLoad cart boot checksum init).timer.Ok ∧ (State.afterLoad cart boot checksum init).ppu.Ok ∧
      (State.afterLoad cart boot checksum init).serial.sc[7] = false := by
  refine ⟨?_, ?_, by simp [State.afterLoad]⟩
  · simp only [State.afterLoad]; decide
  · simp only [State.afterLoad]; decide

/-- Settles O57: the cartridge by `load_cases`, the storages by the premises, and the rest at its reset value. -/
theorem loadInv : Obligations.LoadInv := by
  intro cart boot init s h hv hw ho hh he
  have hc := load_cart_ok h he
  obtain ⟨hboot, controller, romBanks, ramSize, -, -, -, -, -, rfl⟩ := load_cases h
  have hb : (Memory.ofBytes boot).Wf ∧ (Memory.ofBytes boot).Within 0x100 :=
    ⟨Memory.ofBytes_wf boot, hboot ▸ Memory.ofBytes_within boot⟩
  have hnil (size : Nat) : Memory.Wf [] ∧ Memory.Within size [] := ⟨⟨List.Pairwise.nil, by simp⟩, by simp⟩
  obtain ⟨ht, hp, hsc⟩ := State.afterLoad_devices_ok _ (Memory.ofBytes boot) (cart.getD 0x14D 0) init
  exact ⟨⟨hb, hv, hw, ho, hnil _, hh, hnil _⟩, hc, ht, hp, Nat.zero_le 2, hsc⟩

end Sys2Proof.Machine
end

section
/-! PROOF. The register file (R20 to R22), and which instructions write flags (R27) and the control state (R28 to R31). -/

namespace Sys2Proof.Machine

/-! ### The register file -/

theorem toNat_mkWord (hi lo : Byte) : (mkWord hi lo).toNat = hi.toNat * 256 + lo.toNat := by
  rw [mkWord, BitVec.toNat_append, ← Nat.shiftLeft_add_eq_or_of_lt lo.isLt, Nat.shiftLeft_eq]

/-- F holds its four flags above a zero nibble (R21). -/
theorem Flags.toByte_bits (f : Flags) :
    f.toByte[7] = f.z ∧ f.toByte[6] = f.n ∧ f.toByte[5] = f.h ∧ f.toByte[4] = f.c ∧ f.toByte &&& 0x0F = 0 := by
  obtain ⟨z, n, h, c⟩ := f
  revert z n h c
  decide

/-- A byte written to F loses its low nibble (R22). -/
theorem Flags.toByte_ofByte (v : Byte) : (Flags.ofByte v).toByte = v &&& 0xF0 := by
  revert v
  decide

theorem mkWord_and (hi lo hi' lo' : Byte) : mkWord hi lo &&& mkWord hi' lo' = mkWord (hi &&& hi') (lo &&& lo') := by
  refine BitVec.eq_of_getLsbD_eq fun i _ => ?_
  simp only [mkWord, BitVec.getLsbD_and, BitVec.getLsbD_append]
  split <;> rfl

/-- AF reads back without the low nibble of F (R22). -/
theorem State.af_setAf (s : State) (v : Word) : (s.setAf v).af = v &&& 0xFFF0 := by
  have hhi : hiByte v &&& 0xFF = hiByte v := BitVec.and_allOnes
  calc (s.setAf v).af = mkWord (hiByte v) (Flags.ofByte (loByte v)).toByte := rfl
    _ = mkWord (hiByte v &&& 0xFF) (loByte v &&& 0xF0) := by rw [Flags.toByte_ofByte, hhi]
    _ = mkWord (hiByte v) (loByte v) &&& mkWord 0xFF 0xF0 := (mkWord_and _ _ _ _).symm
    _ = v &&& 0xFFF0 := by rw [mkWord_hiByte_loByte]; rfl

theorem State.setReg8_regs (s : State) (r : Reg8) (v : Byte) : s.setReg8 r v = { s with regs := (s.setReg8 r v).regs } := by
  cases r <;> rfl

/-- Settles O4: from the laws of register writes and of words made of two bytes. -/
theorem registerViews : Obligations.RegisterViews := by
  refine ⟨fun s r r' v => ⟨s.reg8_setReg8 r r' v, s.setReg8_f r v, s.setReg8_sp r v, s.setReg8_pc r v, s.setReg8_regs r v⟩,
    fun s v => ⟨toNat_mkWord _ _, toNat_mkWord _ _, toNat_mkWord _ _, toNat_mkWord _ _, ?bc, ?de, ?hl, s.af_setAf v,
      rfl, rfl, rfl, rfl⟩, Flags.toByte_bits⟩
  case bc => exact mkWord_hiByte_loByte v
  case de => exact mkWord_hiByte_loByte v
  case hl => exact mkWord_hiByte_loByte v

/-! ### The control state through the shared operations -/

/-- The interrupt and execution-control state (R28 to R31). -/
def State.control (s : State) : Bool × Nat × Bool × Option FatalRecord := (s.ime, s.eiDelay, s.halted, s.fatal)

@[simp] theorem State.afterRead_control (s : State) (a : Word) : (s.afterRead a).control = s.control := by
  simp [State.control]

@[simp] theorem State.writeByte_control (s : State) (a : Word) (v : Byte) : (s.writeByte a v).control = s.control := by
  simp [State.control]

@[simp] theorem State.push16_control (s : State) (v : Word) : (s.push16 v).control = s.control := by
  simp [State.control]

@[simp] theorem State.pop16_control (s : State) : s.pop16.2.control = s.control := by
  simp [State.control]

@[simp] theorem State.setReg8_control (s : State) (r : Reg8) (v : Byte) : (s.setReg8 r v).control = s.control := by
  simp [State.control]

@[simp] theorem State.setStackReg_control (s : State) (r : StackReg) (v : Word) : (s.setStackReg r v).control = s.control := by
  simp [State.control]

@[simp] theorem State.setF_control (s : State) (f : Flags) : (s.setF f).control = s.control := rfl
@[simp] theorem State.setA_control (s : State) (v : Byte) : (s.setA v).control = s.control := rfl
@[simp] theorem State.retire_control (s : State) (k : Word) (n : Nat) : (s.retire k n).control = s.control := rfl
@[simp] theorem State.jump_control (s : State) (t : Word) (n : Nat) : (s.jump t n).control = s.control := rfl

@[simp] theorem State.readOperand_control (s : State) (o : Operand8) : (s.readOperand o).2.control = s.control := by
  cases o with
  | reg r => rfl
  | atHl => exact s.afterRead_control s.hl

@[simp] theorem State.writeOperand_control (s : State) (o : Operand8) (v : Byte) : (s.writeOperand o v).control = s.control := by
  cases o with
  | reg r => exact s.setReg8_control r v
  | atHl => exact s.writeByte_control s.hl v

theorem State.aluAtHl_control (s : State) (op : AluOp) : (s.aluAtHl op).control = s.control := by
  simp [State.aluAtHl, State.aluWith]

theorem State.incOperand_control (s : State) (o : Operand8) : (s.incOperand o).control = s.control := by
  simp [State.incOperand]

theorem State.decOperand_control (s : State) (o : Operand8) : (s.decOperand o).control = s.control := by
  simp [State.decOperand]

theorem State.rotateOperand_control (s : State) (op : RotOp) (o : Operand8) : (s.rotateOperand op o).control = s.control := by
  simp [State.rotateOperand]

theorem State.testBit_control (s : State) (b : Fin 8) (o : Operand8) : (s.testBit b o).control = s.control := by
  simp [State.testBit]

theorem State.resetBit_control (s : State) (b : Fin 8) (o : Operand8) : (s.resetBit b o).control = s.control := by
  simp [State.resetBit]

theorem State.assignBit_control (s : State) (b : Fin 8) (o : Operand8) : (s.assignBit b o).control = s.control := by
  simp [State.assignBit]

theorem State.runCb_control (s : State) (op2 : Byte) : (s.runCb op2).control = s.control := by
  unfold State.runCb
  split
  · exact s.rotateOperand_control _ _
  · exact s.testBit_control _ _
  · exact s.resetBit_control _ _
  · exact s.assignBit_control _ _

theorem State.popReg_control (s : State) (r : StackReg) : (s.popReg r).control = s.control := by
  simp [State.popReg]

/-! ### The shared operations that write neither flags nor the control state -/

/-- From `s` to `t` neither a flag nor the control state has changed. -/
structure Quiet (s t : State) : Prop where
  flags : t.regs.f = s.regs.f
  control : t.control = s.control

theorem quiet_retire (s : State) (k : Word) (n : Nat) : Quiet s (s.retire k n) := ⟨rfl, rfl⟩

theorem quiet_jump (s : State) (t : Word) (n : Nat) : Quiet s (s.jump t n) := ⟨rfl, rfl⟩

theorem quiet_setReg8 (s : State) (r : Reg8) (v : Byte) (k : Word) (n : Nat) : Quiet s ((s.setReg8 r v).retire k n) :=
  ⟨s.setReg8_f r v, s.setReg8_control r v⟩

theorem quiet_setReg16 (s : State) (r : Reg16) (v : Word) (k : Word) (n : Nat) : Quiet s ((s.setReg16 r v).retire k n) := by
  cases r <;> exact ⟨rfl, rfl⟩

theorem quiet_load8 (s : State) (dst : Reg8) (a k : Word) (n : Nat) : Quiet s (s.load8 dst a k n) :=
  ⟨by simp [State.load8], by simp [State.load8]⟩

theorem quiet_load8_setHl (s : State) (dst : Reg8) (a k v : Word) (n : Nat) : Quiet s ((s.load8 dst a k n).setHl v) :=
  ⟨(quiet_load8 s dst a k n).flags, (quiet_load8 s dst a k n).control⟩

theorem quiet_store8 (s : State) (a k : Word) (v : Byte) (n : Nat) : Quiet s (s.store8 a v k n) :=
  ⟨by simp [State.store8], by simp [State.store8]⟩

theorem quiet_store8_setHl (s : State) (a k w : Word) (v : Byte) (n : Nat) : Quiet s ((s.store8 a v k n).setHl w) :=
  ⟨(quiet_store8 s a k v n).flags, (quiet_store8 s a k v n).control⟩

theorem quiet_storeWord (s : State) (a v k : Word) (n : Nat) : Quiet s (s.storeWord a v k n) :=
  ⟨by simp [State.storeWord], by simp [State.storeWord]⟩

theorem quiet_push (s : State) (v k : Word) (n : Nat) : Quiet s ((s.push16 v).retire k n) := ⟨by simp, by simp⟩

/-- POP writes flags through AF alone. -/
theorem quiet_popReg (s : State) {r : StackReg} (h : r ≠ .af) : Quiet s (s.popReg r) := by
  refine ⟨?_, s.popReg_control r⟩
  cases r
  case af => exact absurd rfl h
  all_goals simp [State.popReg, State.setStackReg]

theorem quiet_resetBit (s : State) (b : Fin 8) (o : Operand8) : Quiet s (s.resetBit b o) := by
  refine ⟨?_, s.resetBit_control b o⟩
  cases o <;> simp [State.resetBit, State.readOperand, State.readMem, State.writeOperand]

theorem quiet_assignBit (s : State) (b : Fin 8) (o : Operand8) : Quiet s (s.assignBit b o) := by
  refine ⟨?_, s.assignBit_control b o⟩
  cases o <;> simp [State.assignBit, State.readOperand, State.readMem, State.writeOperand]

theorem quiet_jumpIf (s : State) (cc : Cond) (t : Word) : Quiet s (s.jumpIf cc t) := by
  unfold State.jumpIf; split
  · exact quiet_jump _ _ _
  · exact quiet_retire _ _ _

theorem quiet_jumpRelativeIf (s : State) (cc : Cond) (e : Byte) : Quiet s (s.jumpRelativeIf cc e) := by
  unfold State.jumpRelativeIf; split
  · exact quiet_jump _ _ _
  · exact quiet_retire _ _ _

theorem quiet_call (s : State) (t : Word) : Quiet s (s.call t) := ⟨by simp [State.call], by simp [State.call]⟩

theorem quiet_callIf (s : State) (cc : Cond) (t : Word) : Quiet s (s.callIf cc t) := by
  unfold State.callIf; split
  · exact quiet_call _ _
  · exact quiet_retire _ _ _

theorem quiet_restart (s : State) (y : Fin 8) : Quiet s (s.restart y) := ⟨by simp [State.restart], by simp [State.restart]⟩

theorem quiet_returnWith (s : State) (n : Nat) : Quiet s (s.returnWith n) :=
  ⟨by simp [State.returnWith], by simp [State.returnWith]⟩

theorem quiet_returnIf (s : State) (cc : Cond) : Quiet s (s.returnIf cc) := by
  unfold State.returnIf; split
  · exact quiet_returnWith _ _
  · exact quiet_retire _ _ _

/-! ### Every instruction -/

/-- The instructions that raise Fatal (R332, R336). -/
def fatalInstrs : List Instr :=
  [.stop, .illegalD3, .illegalDB, .illegalDD, .illegalE3, .illegalE4, .illegalEB, .illegalEC, .illegalED, .illegalF4, .illegalFC,
    .illegalFD]

/-- What instruction `i` may do to the flags and to the control state between `s` and `t`. -/
structure CpuFrame (i : Instr) (s t : State) : Prop where
  flags : writesFlags i = false → t.regs.f = s.regs.f
  ime : t.ime = s.ime ∨ i = .di ∨ i = .reti
  eiDelay : t.eiDelay = s.eiDelay ∨ i = .di ∨ i = .ei
  halted : t.halted = s.halted ∨ i = .halt
  fatal : t.fatal = s.fatal ∨ i ∈ fatalInstrs

theorem CpuFrame.of_control {i : Instr} {s t : State} (hf : writesFlags i = false → t.regs.f = s.regs.f)
    (hc : t.control = s.control) : CpuFrame i s t := by
  simp only [State.control, Prod.mk.injEq] at hc
  obtain ⟨hime, hei, hhalted, hfatal⟩ := hc
  exact ⟨hf, .inl hime, .inl hei, .inl hhalted, .inl hfatal⟩

theorem CpuFrame.of_quiet {i : Instr} {s t : State} (h : Quiet s t) : CpuFrame i s t := .of_control (fun _ => h.flags) h.control

theorem CpuFrame.of_writesFlags {i : Instr} {s t : State} (h : writesFlags i = true) (hc : t.control = s.control) :
    CpuFrame i s t := .of_control (fun h' => absurd (h'.symm.trans h) Bool.false_ne_true) hc

/-- Every instruction keeps the flags and the control state, but for what its rule lists. -/
theorem exec_cpuFrame (i : Instr) (s : State) : ∃ t, exec i s = .next t ∧ CpuFrame i s t := by
  cases i
  -- quiet instructions: loads, stores, 16-bit moves and counts, the stack, RES and SET, control transfers
  case ldBcNn | ldDeNn | ldHlNn | ldSpNn | incBc | decBc | incDe | decDe | incHl | decHl | incSp | decSp =>
    exact ⟨_, rfl, .of_quiet (quiet_setReg16 s _ _ _ _)⟩
  case ldBN | ldCN | ldDN | ldEN | ldHN | ldLN | ldAN =>
    exact ⟨_, rfl, .of_quiet (quiet_setReg8 s _ _ _ _)⟩
  case ldBB | ldBC | ldBD | ldBE | ldBH | ldBL | ldBA | ldCB | ldCC | ldCD | ldCE | ldCH | ldCL | ldCA | ldDB | ldDC |
    ldDD | ldDE | ldDH | ldDL | ldDA | ldEB | ldEC | ldED | ldEE | ldEH | ldEL | ldEA | ldHB | ldHC | ldHD | ldHE |
    ldHH | ldHL | ldHA | ldLB | ldLC | ldLD | ldLE | ldLH | ldLL | ldLA | ldAB | ldAC | ldAD | ldAE | ldAH | ldAL |
    ldAA =>
    exact ⟨_, rfl, .of_quiet (quiet_setReg8 s _ _ _ _)⟩
  case ldhAAtN | ldAAtNn | ldAAtBc | ldAAtDe | ldBAtHl | ldCAtHl | ldDAtHl | ldEAtHl | ldHAtHl | ldLAtHl | ldAAtHl |
    ldhAAtC =>
    exact ⟨_, rfl, .of_quiet (quiet_load8 s _ _ _ _)⟩
  case ldAAtHlInc | ldAAtHlDec =>
    exact ⟨_, rfl, .of_quiet (quiet_load8_setHl s _ _ _ _ _)⟩
  case ldAtHlN | ldAtHlB | ldAtHlC | ldAtHlD | ldAtHlE | ldAtHlH | ldAtHlL | ldAtHlA | ldhAtNA | ldAtNnA | ldAtBcA |
    ldAtDeA | ldhAtCA =>
    exact ⟨_, rfl, .of_quiet (quiet_store8 s _ _ _ _)⟩
  case ldAtHlIncA | ldAtHlDecA =>
    exact ⟨_, rfl, .of_quiet (quiet_store8_setHl s _ _ _ _ _)⟩
  case ldAtNnSp =>
    exact ⟨_, rfl, .of_quiet (quiet_storeWord s _ _ _ _)⟩
  case pushBc | pushDe | pushHl | pushAf =>
    exact ⟨_, rfl, .of_quiet (quiet_push s _ _ _)⟩
  case popBc | popDe | popHl =>
    exact ⟨_, rfl, .of_quiet (quiet_popReg s (by decide))⟩
  case res0B | res0C | res0D | res0E | res0H | res0L | res0AtHl | res0A | res1B | res1C | res1D | res1E | res1H |
    res1L | res1AtHl | res1A | res2B | res2C | res2D | res2E | res2H | res2L | res2AtHl | res2A | res3B | res3C |
    res3D | res3E | res3H | res3L | res3AtHl | res3A | res4B | res4C | res4D | res4E | res4H | res4L | res4AtHl |
    res4A | res5B | res5C | res5D | res5E | res5H | res5L | res5AtHl | res5A | res6B | res6C | res6D | res6E | res6H |
    res6L | res6AtHl | res6A | res7B | res7C | res7D | res7E | res7H | res7L | res7AtHl | res7A =>
    exact ⟨_, rfl, .of_quiet (quiet_resetBit s _ _)⟩
  case set0B | set0C | set0D | set0E | set0H | set0L | set0AtHl | set0A | set1B | set1C | set1D | set1E | set1H |
    set1L | set1AtHl | set1A | set2B | set2C | set2D | set2E | set2H | set2L | set2AtHl | set2A | set3B | set3C |
    set3D | set3E | set3H | set3L | set3AtHl | set3A | set4B | set4C | set4D | set4E | set4H | set4L | set4AtHl |
    set4A | set5B | set5C | set5D | set5E | set5H | set5L | set5AtHl | set5A | set6B | set6C | set6D | set6E | set6H |
    set6L | set6AtHl | set6A | set7B | set7C | set7D | set7E | set7H | set7L | set7AtHl | set7A =>
    exact ⟨_, rfl, .of_quiet (quiet_assignBit s _ _)⟩
  case nop =>
    exact ⟨_, rfl, .of_quiet (quiet_retire s _ _)⟩
  case ldSpHl =>
    exact ⟨_, rfl, .of_quiet ⟨rfl, rfl⟩⟩
  case jrE | jpNn | jpHl =>
    exact ⟨_, rfl, .of_quiet (quiet_jump s _ _)⟩
  case jpNzNn | jpZNn | jpNcNn | jpCNn =>
    exact ⟨_, rfl, .of_quiet (quiet_jumpIf s _ _)⟩
  case jrNzE | jrZE | jrNcE | jrCE =>
    exact ⟨_, rfl, .of_quiet (quiet_jumpRelativeIf s _ _)⟩
  case callNn =>
    exact ⟨_, rfl, .of_quiet (quiet_call s _)⟩
  case callNzNn | callZNn | callNcNn | callCNn =>
    exact ⟨_, rfl, .of_quiet (quiet_callIf s _ _)⟩
  case rst00 | rst08 | rst10 | rst18 | rst20 | rst28 | rst30 | rst38 =>
    exact ⟨_, rfl, .of_quiet (quiet_restart s _)⟩
  case ret =>
    exact ⟨_, rfl, .of_quiet (quiet_returnWith s _)⟩
  case retNz | retZ | retNc | retC =>
    exact ⟨_, rfl, .of_quiet (quiet_returnIf s _)⟩
  -- the instructions that write flags
  case addAN | adcAN | subN | sbcAN | andN | xorN | orN | cpN | addAB | addAC | addAD | addAE | addAH | addAL |
    addAA | adcAB | adcAC | adcAD | adcAE | adcAH | adcAL | adcAA | subB | subC | subD | subE | subH | subL | subA |
    sbcAB | sbcAC | sbcAD | sbcAE | sbcAH | sbcAL | sbcAA | andB | andC | andD | andE | andH | andL | andA | xorB |
    xorC | xorD | xorE | xorH | xorL | xorA | orB | orC | orD | orE | orH | orL | orA | cpB | cpC | cpD | cpE | cpH |
    cpL | cpA =>
    exact ⟨_, rfl, .of_writesFlags rfl rfl⟩
  case addAAtHl | adcAAtHl | subAtHl | sbcAAtHl | andAtHl | xorAtHl | orAtHl | cpAtHl =>
    exact ⟨_, rfl, .of_writesFlags rfl (s.aluAtHl_control _)⟩
  case incB | incC | incD | incE | incH | incL | incAtHl | incA =>
    exact ⟨_, rfl, .of_writesFlags rfl (s.incOperand_control _)⟩
  case decB | decC | decD | decE | decH | decL | decAtHl | decA =>
    exact ⟨_, rfl, .of_writesFlags rfl (s.decOperand_control _)⟩
  case rlcB | rlcC | rlcD | rlcE | rlcH | rlcL | rlcAtHl | rlcA | rrcB | rrcC | rrcD | rrcE | rrcH | rrcL | rrcAtHl |
    rrcA | rlB | rlC | rlD | rlE | rlH | rlL | rlAtHl | rlA | rrB | rrC | rrD | rrE | rrH | rrL | rrAtHl | rrA |
    slaB | slaC | slaD | slaE | slaH | slaL | slaAtHl | slaA | sraB | sraC | sraD | sraE | sraH | sraL | sraAtHl |
    sraA | swapB | swapC | swapD | swapE | swapH | swapL | swapAtHl | swapA | srlB | srlC | srlD | srlE | srlH |
    srlL | srlAtHl | srlA =>
    exact ⟨_, rfl, .of_writesFlags rfl (s.rotateOperand_control _ _)⟩
  case bit0B | bit0C | bit0D | bit0E | bit0H | bit0L | bit0AtHl | bit0A | bit1B | bit1C | bit1D | bit1E | bit1H |
    bit1L | bit1AtHl | bit1A | bit2B | bit2C | bit2D | bit2E | bit2H | bit2L | bit2AtHl | bit2A | bit3B | bit3C |
    bit3D | bit3E | bit3H | bit3L | bit3AtHl | bit3A | bit4B | bit4C | bit4D | bit4E | bit4H | bit4L | bit4AtHl |
    bit4A | bit5B | bit5C | bit5D | bit5E | bit5H | bit5L | bit5AtHl | bit5A | bit6B | bit6C | bit6D | bit6E | bit6H |
    bit6L | bit6AtHl | bit6A | bit7B | bit7C | bit7D | bit7E | bit7H | bit7L | bit7AtHl | bit7A =>
    exact ⟨_, rfl, .of_writesFlags rfl (s.testBit_control _ _)⟩
  case prefixCb =>
    exact ⟨_, rfl, .of_writesFlags rfl (s.runCb_control _)⟩
  case popAf =>
    exact ⟨_, rfl, .of_writesFlags rfl (s.popReg_control _)⟩
  case addSpE | ldHlSpE | rlcAcc | rrcAcc | rlAcc | rrAcc | addHlBc | addHlDe | addHlHl | addHlSp | daa | cplAcc |
    scf | ccf =>
    exact ⟨_, rfl, .of_writesFlags rfl rfl⟩
  -- the instructions that write the control state
  case di =>
    exact ⟨_, rfl, fun _ => rfl, .inr (.inl rfl), .inr (.inl rfl), .inl rfl, .inl rfl⟩
  case ei =>
    exact ⟨_, rfl, fun _ => rfl, .inl rfl, .inr (.inr rfl), .inl rfl, .inl rfl⟩
  case halt =>
    exact ⟨_, rfl, fun _ => rfl, .inl rfl, .inl rfl, .inr rfl, .inl rfl⟩
  case reti =>
    refine ⟨_, rfl, fun _ => ?_, .inr (.inr rfl), .inl ?_, .inl ?_, .inl ?_⟩ <;> simp [State.returnFromInterrupt]
  case stop | illegalD3 | illegalDB | illegalDD | illegalE3 | illegalE4 | illegalEB | illegalEC | illegalED |
    illegalF4 | illegalFC | illegalFD =>
    exact ⟨_, rfl, fun _ => rfl, .inl rfl, .inl rfl, .inl rfl, .inr (by simp [fatalInstrs])⟩

/-- Settles O33: by `exec_cpuFrame`. -/
theorem flagFrame : Obligations.FlagFrame := by
  intro i s h
  obtain ⟨t, ht, hframe⟩ := exec_cpuFrame i s
  exact ⟨t, ht, hframe.flags h⟩

/-! ### What moves between instructions only -/

/-- The position of the pixel pipeline, the coincidence, the framebuffer, the boot overlay and the host's input: no instruction
moves them. -/
def State.driven (s : State) : PpuMode × Byte × Nat × Bool × Bool × Memory × Bool × Byte × List Byte :=
  (s.ppu.mode, s.ppu.ly, s.ppu.clock, s.ppu.lycEq, s.ppu.off, s.ppu.framebuffer, s.bootActive, s.joypInput, s.joypQueue)

theorem State.afterRead_driven (s : State) (a : Word) : (s.afterRead a).driven = s.driven := by simp [State.driven]

theorem State.writeByte_driven (s : State) (a : Word) (v : Byte) : (s.writeByte a v).driven = s.driven := by simp [State.driven]

theorem Shape.driven {s t : State} (h : Shape s t) : t.driven = s.driven :=
  h.lift (R := fun s t => t.driven = s.driven) (fun h h' => h'.trans h) State.afterRead_driven State.writeByte_driven
    (fun _ _ _ _ _ _ _ => rfl)

/-- Settles O34: the control state by `exec_cpuFrame`, the rest by the form of the instruction's next state. -/
theorem controlFrame : Obligations.ControlFrame := by
  intro i s
  obtain ⟨t, ht, hcpu⟩ := exec_cpuFrame i s
  have hs := shape_of_exec ht
  have hd := hs.driven
  simp only [State.driven, Prod.mk.injEq] at hd
  obtain ⟨hmode, hly, hclock, hlycEq, hoff, hframebuffer, hboot, hinput, hqueue⟩ := hd
  exact ⟨t, ht, hcpu.ime, hcpu.eiDelay, hcpu.halted, hcpu.fatal, hmode, hly, hclock, hlycEq, hoff, hframebuffer, hboot,
    (sameCartridge_iff s t).mpr hs.keepsLoad.loaded, hinput, hqueue⟩

end Sys2Proof.Machine
end

section
/-! PROOF. The memory map (R60, R61): an access is that of its row, and plain RAM (R76, R78, R79, R81, R83) reads back what was
written. -/

namespace Sys2Proof.Machine

/-! ### An access by its row of the map -/

/-- A read and a write are those of the row that holds the address. -/
theorem State.access_of_region (s : State) {a : Word} {r : Region} (h : regionOf a = r) (v : Byte) :
    s.readByte a = s.readRegion r ∧ s.writeByte a v = s.writeRegion v r := h ▸ ⟨rfl, rfl⟩

theorem State.afterRead_unusable (s : State) {a : Word} (h : regionOf a = .unusable) :
    s.afterRead a = { s with draws := s.draws + 1 } := by
  rw [State.afterRead, h]; rfl

theorem State.afterRead_draws (s : State) (a : Word) : s.afterRead a = { s with draws := (s.afterRead a).draws } := by
  obtain h | h := s.afterRead_cases a <;> rw [h]

/-- Settles O45: each clause is the access of its row of the map. -/
theorem memoryMap : Obligations.MemoryMap := by
  refine fun s a v => ⟨fun h h' => s.access_of_region (regionOf_vram h h') v,
    fun h h' => s.access_of_region (regionOf_wram h h') v, fun h h' => s.access_of_region (regionOf_echo h h') v,
    fun h h' => s.access_of_region (regionOf_oam h h') v, fun h h' => ?unusable,
    fun h h' => s.access_of_region (regionOf_hram h h') v, ?intEnable, s.afterRead_draws a, State.afterRead_of_no_draw⟩
  case unusable =>
    have hr := regionOf_unusable h h'
    obtain ⟨hread, hwrite⟩ := s.access_of_region hr v
    exact ⟨hread, s.afterRead_unusable hr, hwrite⟩
  case intEnable =>
    rintro rfl
    exact s.access_of_region rfl v

/-! ### Plain RAM -/

/-- The four storages of plain RAM are in canonical form. -/
def State.RamWf (s : State) : Prop := s.vram.Wf ∧ s.wram.Wf ∧ s.oam.Wf ∧ s.hram.Wf

theorem State.readRegion_writeRegion_same {s : State} (hs : s.RamWf) {r : Region} (hr : r.isRam = true) (v : Byte) :
    (s.writeRegion v r).readRegion r = v := by
  obtain ⟨hvram, hwram, hoam, hhram⟩ := hs
  cases r <;> try contradiction
  case vram off => exact Memory.read_write_same hvram off v
  case wram off => exact Memory.read_write_same hwram off v
  case oam off => exact Memory.read_write_same hoam off v
  case hram off => exact Memory.read_write_same hhram off v

/-- A store to a cell of plain RAM is not seen in any other cell. -/
theorem State.readRegion_writeRegion_ne {s : State} (hs : s.RamWf) {r r' : Region} (hr : r.isRam = true) (h : r' ≠ r)
    (v : Byte) : (s.writeRegion v r).readRegion r' = s.readRegion r' := by
  obtain ⟨hvram, hwram, hoam, hhram⟩ := hs
  cases r <;> try contradiction
  all_goals cases r' <;> try rfl
  case vram.vram off off' => exact Memory.read_write_ne hvram v fun e => h (e ▸ rfl)
  case wram.wram off off' => exact Memory.read_write_ne hwram v fun e => h (e ▸ rfl)
  case oam.oam off off' => exact Memory.read_write_ne hoam v fun e => h (e ▸ rfl)
  case hram.hram off off' => exact Memory.read_write_ne hhram v fun e => h (e ▸ rfl)

/-- A store to plain RAM changes the four storages alone. -/
theorem State.writeByte_ram (s : State) {a : Word} (ha : (regionOf a).isRam = true) (v : Byte) :
    let t := s.writeByte a v
    t = { s with vram := t.vram, wram := t.wram, oam := t.oam, hram := t.hram } := by
  unfold State.writeByte
  generalize regionOf a = r at ha ⊢
  cases r <;> try contradiction
  all_goals rfl

/-- Whether a read is a draw depends on the cartridge alone (R77, R80). -/
theorem State.drawsAt_of_cart_eq {s t : State} (h : t.cart = s.cart) (r : Region) : t.drawsAt r = s.drawsAt r := by
  cases r <;> simp only [State.drawsAt, h]

theorem State.readsAsBefore_writeByte_ram {s : State} (hs : s.RamWf) {a b : Word} (ha : (regionOf a).isRam = true)
    (h : regionOf b ≠ regionOf a) (v : Byte) : ReadsAsBefore s (s.writeByte a v) b :=
  ⟨State.drawsAt_of_cart_eq (by rw [s.writeByte_ram ha v]) _, fun _ => State.readRegion_writeRegion_ne hs ha h v⟩

/-- The echo of 0xC000-0xDDFF (R79). -/
theorem regionOf_add_0x2000 {a : Word} (h : 0xC000 ≤ a.toNat) (h' : a.toNat ≤ 0xDDFF) : regionOf (a + 0x2000) = regionOf a := by
  have ha : (a + 0x2000).toNat = a.toNat + 0x2000 := by bv_omega
  rw [regionOf_echo (by omega) (by omega), regionOf_wram h (by omega), ha]
  exact congrArg Region.wram (by omega)

theorem regionOf_sub_0x2000 {a : Word} (h : 0xE000 ≤ a.toNat) (h' : a.toNat ≤ 0xFDFF) : regionOf (a - 0x2000) = regionOf a := by
  have ha : (a - 0x2000).toNat = a.toNat - 0x2000 := by bv_omega
  have := regionOf_add_0x2000 (a := a - 0x2000) (by omega) (by omega)
  rwa [BitVec.sub_add_cancel, eq_comm] at this

/-- Settles O46: a store to a cell of plain RAM is read there and in no other cell, and an address and its echo are one cell. -/
theorem ramReadBack : Obligations.RamReadBack := by
  intro s a v hvram hwram hoam hhram ha
  have hs : s.RamWf := ⟨hvram, hwram, hoam, hhram⟩
  have hsame (b : Word) (hb : regionOf b = regionOf a) : (s.writeByte a v).readByte b = v := by
    rw [State.readByte, hb]
    exact State.readRegion_writeRegion_same hs ha v
  exact ⟨hsame a rfl, fun b hb => State.readsAsBefore_writeByte_ram hs ha hb v,
    fun h h' => hsame _ (regionOf_add_0x2000 h h'), fun h h' => hsame _ (regionOf_sub_0x2000 h h')⟩

end Sys2Proof.Machine
end

section
/-! PROOF. The I/O registers (R44, R45, R90 to R100). -/

namespace Sys2Proof.Machine

theorem State.io_access (s : State) {a : Word} (r : IoReg) (v : Byte) (h : regionOf a = .io r := by simp [regionOf, ioRegAt]) :
    s.writeByte a v = s.writeIo v r ∧ s.readByte a = s.readIo r := (s.access_of_region h v).symm

/-- JOYP as R91 computes it: from the bits above the nibble, then one AND per selected row of keys. -/
theorem joypByte_eq (sel : BitVec 2) (input : Byte) :
    joypByte sel input =
      (let low0 : Byte := 0x0F
       let low1 := if sel[0] = false then low0 &&& input &&& 0x0F else low0
       let low2 := if sel[1] = false then low1 &&& (input >>> 4) else low1
       0xC0 ||| (sel.setWidth 8 <<< 4) ||| low2) := by
  revert sel input
  decide

/-- STAT as a number: five stored bits, the coincidence, the mode (R45). -/
theorem Ppu.statByte_toNat (p : Ppu) : p.statByte.toNat = p.stat.toNat * 8 + p.lycEq.toNat * 4 + p.mode.code.toNat := by
  have hl := (BitVec.ofBool p.lycEq).isLt
  have hm := p.mode.code.isLt
  rw [Ppu.statByte, BitVec.toNat_append, BitVec.toNat_append, ← Nat.shiftLeft_add_eq_or_of_lt hl,
    ← Nat.shiftLeft_add_eq_or_of_lt hm, Nat.shiftLeft_eq, Nat.shiftLeft_eq, BitVec.toNat_ofBool]
  omega

/-- The cells of the I/O region without a register of R45 (R44). -/
theorem ioRegAt_of_not_mem {n : Nat} (hn : 0xFF00 ≤ n)
    (h : n ∉ [0xFF00, 0xFF01, 0xFF02, 0xFF04, 0xFF05, 0xFF06, 0xFF07, 0xFF0F, 0xFF40, 0xFF41, 0xFF42, 0xFF43, 0xFF44, 0xFF45,
      0xFF46, 0xFF47, 0xFF48, 0xFF49, 0xFF4A, 0xFF4B]) : ioRegAt (n - 0xFF00) = .plain (n - 0xFF00) := by
  simp only [List.mem_cons, List.not_mem_nil, or_false, not_or] at h
  unfold ioRegAt
  iterate 20 rw [if_neg (by omega)]

/-- Settles O47: each clause is the access of its register; JOYP, SC and STAT by their laws, a plain cell by `ioRegAt_of_not_mem`. -/
theorem ioRegisters : Obligations.IoRegisters := by
  intro s v
  refine ⟨?joyp, s.io_access .sb v, ?sc, s.io_access .div v, s.io_access .tima v, s.io_access .tma v, s.io_access .tac v,
    s.io_access .intFlag v, s.io_access .lcdc v, ?stat, s.io_access .scy v, s.io_access .scx v, s.io_access .ly v,
    s.io_access .lyc v, s.io_access .bgp v, s.io_access .obp0 v, s.io_access .obp1 v, s.io_access .wy v, s.io_access .wx v,
    ?plain⟩
  case joyp =>
    obtain ⟨hwrite, hread⟩ := s.io_access (a := 0xFF00) .joyp v
    exact ⟨by rw [hwrite, BitVec.setWidth_ushiftRight_eq_extractLsb]; rfl, hread.trans (joypByte_eq _ _)⟩
  case sc =>
    obtain ⟨hwrite, hread⟩ := s.io_access (a := 0xFF02) .sc v
    exact ⟨fun h => hwrite.trans (if_pos h), fun h => hwrite.trans (if_neg (Bool.eq_false_iff.mp h)), hread⟩
  case stat =>
    obtain ⟨hwrite, hread⟩ := s.io_access (a := 0xFF41) .stat v
    exact ⟨by rw [hwrite, BitVec.setWidth_ushiftRight_eq_extractLsb]; rfl,
      by rw [hread]; exact s.ppu.statByte_toNat.trans (by cases s.ppu.mode <;> rfl)⟩
  case plain =>
    intro a h h' hmem
    have hr : regionOf a = .io (.plain (a.toNat - 0xFF00)) := by
      rw [regionOf_io h h', ioRegAt_of_not_mem h hmem]
    exact s.access_of_region hr v

end Sys2Proof.Machine
end

section
/-! PROOF. The cartridge on the bus: the ROM window and its controller registers (R70 to R75, R86 to R89), and external RAM (R74, R77). -/

namespace Sys2Proof.Machine

/-! ### What the ROM window reads -/

/-- Outside the overlay the ROM window reads the ROM image (R70, R72). -/
theorem State.readByte_rom {s : State} {a : Word} (ha : a.toNat < 0x8000) (hb : s.bootActive = false ∨ 0x100 ≤ a.toNat) :
    s.readByte a = s.cart.rom.read (s.cart.romIndex a.toNat) := by
  rw [State.readByte, regionOf_rom ha]
  refine if_neg fun ⟨hboot, hlow⟩ => ?_
  obtain hb | hb := hb
  · exact Bool.false_ne_true (hb.symm.trans hboot)
  · exact absurd hlow (Nat.not_lt.mpr hb)

theorem toNat_romOffset (a : Word) : (a &&& 0x3FFF).toNat = a.toNat % 0x4000 := by
  rw [BitVec.toNat_and]; exact Nat.and_two_pow_sub_one_eq_mod a.toNat 14

theorem toNat_eramOffset {a : Word} (h : 0xA000 ≤ a.toNat) (h' : a.toNat ≤ 0xBFFF) :
    (a &&& 0x1FFF).toNat = a.toNat - 0xA000 := by
  have hmod : (a &&& 0x1FFF).toNat = a.toNat % 0x2000 := by
    rw [BitVec.toNat_and]; exact Nat.and_two_pow_sub_one_eq_mod a.toNat 13
  omega

/-- The direct controller shows the image as it is (R72). -/
theorem Cart.romIndex_direct {c : Cart} (hc : c.controller = .direct) (off : Nat) : c.romIndex off = off := by
  rw [Cart.romIndex, Cart.romBankAt, hc]
  exact Nat.div_add_mod' off 0x4000

/-- A zero bank register reads as 1 (R89). -/
theorem nonzeroBank_toNat {w : Nat} (bank : BitVec w) : nonzeroBank bank.toNat = if bank = 0 then 1 else bank.toNat := by
  simp [nonzeroBank, BitVec.toNat_eq]

/-- MBC1's bank as R73 writes it: the two registers as the bits of one number. -/
theorem Mbc1.bank_eq (r : Mbc1) :
    (r.bank2.toNat <<< 5) ||| (if r.bank1 = 0 then 1 else r.bank1.toNat) = r.bank2.toNat * 32 + nonzeroBank r.bank1.toNat := by
  have hlt : nonzeroBank r.bank1.toNat < 2 ^ 5 := by
    have := r.bank1.isLt
    unfold nonzeroBank
    split <;> omega
  rw [← nonzeroBank_toNat, ← Nat.shiftLeft_add_eq_or_of_lt hlt, Nat.shiftLeft_eq]

theorem Cart.romIndex_mbc1_low {c : Cart} {r : Mbc1} (hc : c.controller = .mbc1 r) {off : Nat} (h : off < 0x4000) :
    c.romIndex off = (if r.mode = 1 then (r.bank2.toNat <<< 5) % c.romBanks else 0) * 0x4000 + off % 0x4000 := by
  simp only [Cart.romIndex, Cart.romBankAt, hc, if_pos h, Nat.shiftLeft_eq]

theorem Cart.romIndex_mbc1_high {c : Cart} {r : Mbc1} (hc : c.controller = .mbc1 r) {off : Nat} (h : 0x4000 ≤ off) :
    c.romIndex off =
      ((r.bank2.toNat <<< 5) ||| (if r.bank1 = 0 then 1 else r.bank1.toNat)) % c.romBanks * 0x4000 + off % 0x4000 := by
  simp only [Cart.romIndex, Cart.romBankAt, hc, if_neg (Nat.not_lt.mpr h), r.bank_eq]

theorem Cart.romIndex_mbc3_low {c : Cart} {r : Mbc3} (hc : c.controller = .mbc3 r) {off : Nat} (h : off < 0x4000) :
    c.romIndex off = off := by
  simp only [Cart.romIndex, Cart.romBankAt, hc, if_pos h, Nat.zero_mul, Nat.zero_add, Nat.mod_eq_of_lt h]

theorem Cart.romIndex_mbc3_high {c : Cart} {r : Mbc3} (hc : c.controller = .mbc3 r) {off : Nat} (h : 0x4000 ≤ off) :
    c.romIndex off = (if r.romBank = 0 then 1 else r.romBank.toNat) % c.romBanks * 0x4000 + off % 0x4000 := by
  simp only [Cart.romIndex, Cart.romBankAt, hc, if_neg (Nat.not_lt.mpr h), nonzeroBank_toNat]

/-- Settles O42: outside the overlay a read is of the image at `Cart.romIndex`, which each controller computes as its rule says. -/
theorem romBanking : Obligations.RomBanking := by
  intro s a ha hb off
  rw [State.readByte_rom ha hb, show off = a.toNat % 0x4000 from toNat_romOffset a]
  exact ⟨fun hc => by rw [Cart.romIndex_direct hc],
    fun r hc => ⟨fun h => by rw [Cart.romIndex_mbc1_low hc h], fun h => by rw [Cart.romIndex_mbc1_high hc h]⟩,
    fun r hc => ⟨fun h => by rw [Cart.romIndex_mbc3_low hc h], fun h => by rw [Cart.romIndex_mbc3_high hc h]⟩⟩

/-! ### Controller registers -/

/-- A write to the ROM window is a write to the controller (R86). -/
theorem State.writeByte_rom (s : State) {a : Word} (ha : a.toNat < 0x8000) (v : Byte) :
    s.writeByte a v = { s with cart.controller := s.cart.controller.write a.toNat v } :=
  (s.access_of_region (regionOf_rom ha) v).2

/-- The RAM enable takes the value 0x0A in the low nibble (R87, R88). -/
theorem ramEnable_eq (v : Byte) : (v.extractLsb' 0 4 == 0xA) = decide (v &&& 0x0F = 0x0A) := by
  revert v
  decide

/-- The low bits of a byte, taken by a mask. -/
theorem lowBits_eq (v : Byte) :
    v.extractLsb' 0 5 = (v &&& 0x1F).setWidth 5 ∧ v.extractLsb' 0 2 = (v &&& 0x03).setWidth 2 ∧
      v.extractLsb' 0 1 = (v &&& 0x01).setWidth 1 ∧ v.extractLsb' 0 7 = (v &&& 0x7F).setWidth 7 := by
  revert v
  decide

theorem Controller.write_mbc1 (r : Mbc1) (off : Nat) (v : Byte) :
    (off ≤ 0x1FFF → (Controller.mbc1 r).write off v = .mbc1 { r with ramEnable := decide (v &&& 0x0F = 0x0A) }) ∧
    (0x2000 ≤ off → off ≤ 0x3FFF → (Controller.mbc1 r).write off v = .mbc1 { r with bank1 := (v &&& 0x1F).setWidth 5 }) ∧
    (0x4000 ≤ off → off ≤ 0x5FFF → (Controller.mbc1 r).write off v = .mbc1 { r with bank2 := (v &&& 0x03).setWidth 2 }) ∧
    (0x6000 ≤ off → (Controller.mbc1 r).write off v = .mbc1 { r with mode := (v &&& 0x01).setWidth 1 }) := by
  obtain ⟨h5, h2, h1, -⟩ := lowBits_eq v
  simp only [Controller.write, ramEnable_eq, h5, h2, h1]
  refine ⟨fun h => ?_, fun h h' => ?_, fun h h' => ?_, fun h => ?_⟩
  · rw [if_pos (by omega)]
  · rw [if_neg (by omega), if_pos (by omega)]
  · rw [if_neg (by omega), if_neg (by omega), if_pos (by omega)]
  · rw [if_neg (by omega), if_neg (by omega), if_neg (by omega)]

theorem Controller.write_mbc3 (r : Mbc3) (off : Nat) (v : Byte) :
    (off ≤ 0x1FFF → (Controller.mbc3 r).write off v = .mbc3 { r with ramEnable := decide (v &&& 0x0F = 0x0A) }) ∧
    (0x2000 ≤ off → off ≤ 0x3FFF → (Controller.mbc3 r).write off v = .mbc3 { r with romBank := (v &&& 0x7F).setWidth 7 }) ∧
    (0x4000 ≤ off → off ≤ 0x5FFF → (Controller.mbc3 r).write off v = .mbc3 { r with ramBank := v }) ∧
    (0x6000 ≤ off → (Controller.mbc3 r).write off v = .mbc3 r) := by
  obtain ⟨-, -, -, h7⟩ := lowBits_eq v
  simp only [Controller.write, ramEnable_eq, h7]
  refine ⟨fun h => ?_, fun h h' => ?_, fun h h' => ?_, fun h => ?_⟩
  · rw [if_pos (by omega)]
  · rw [if_neg (by omega), if_pos (by omega)]
  · rw [if_neg (by omega), if_neg (by omega), if_pos (by omega)]
  · rw [if_neg (by omega), if_neg (by omega), if_neg (by omega)]

/-- A write that leaves the controller as it is changes nothing. -/
theorem State.writeByte_rom_of_write_eq {s : State} {a : Word} (ha : a.toNat < 0x8000) {v : Byte}
    (h : s.cart.controller.write a.toNat v = s.cart.controller) : s.writeByte a v = s := by
  rw [s.writeByte_rom ha v, h]

/-- Settles O44: the write is one to the controller, and each controller's registers by their address ranges. -/
theorem controllerWrites : Obligations.ControllerWrites := by
  intro s a v ha wrote
  have hwrote {c c' : Controller} (hc : s.cart.controller = c) (hw : c.write a.toNat v = c') : wrote c' := by
    rw [← hw, ← hc]
    exact s.writeByte_rom ha v
  refine ⟨fun hc => State.writeByte_rom_of_write_eq ha (by rw [hc]; rfl), fun r hc => ?mbc1, fun r hc => ?mbc3⟩
  case mbc1 =>
    obtain ⟨hEnable, hBank1, hBank2, hMode⟩ := Controller.write_mbc1 r a.toNat v
    exact ⟨fun h => hwrote hc (hEnable h), fun h h' => hwrote hc (hBank1 h h'), fun h h' => hwrote hc (hBank2 h h'),
      fun h => hwrote hc (hMode h)⟩
  case mbc3 =>
    obtain ⟨hEnable, hRom, hRam, hNone⟩ := Controller.write_mbc3 r a.toNat v
    exact ⟨fun h => hwrote hc (hEnable h), fun h h' => hwrote hc (hRom h h'), fun h h' => hwrote hc (hRam h h'),
      fun h => State.writeByte_rom_of_write_eq ha (by rw [hc, hNone h])⟩

/-! ### External RAM -/

/-- External RAM by what the access reaches (R77). -/
theorem State.eram_of_access {s : State} {a : Word} (h : 0xA000 ≤ a.toNat) (h' : a.toNat ≤ 0xBFFF) {x : EramAccess}
    (hx : s.cart.eramAccess (a &&& 0x1FFF).toNat = x) (v : Byte) :
    match x with
    | .disabled => s.readByte a = 0xFF ∧ s.writeByte a v = s
    | .unmodelled => s.readByte a = Config.freeByte s.draws ∧ s.afterRead a = { s with draws := s.draws + 1 } ∧ s.writeByte a v = s
    | .cell index =>
      s.readByte a = s.cart.eram.read index ∧ s.writeByte a v = { s with cart.eram := s.cart.eram.write index v } := by
  obtain ⟨hread, hwrite, hafter⟩ := s.eram_access h h' v
  rw [toNat_eramOffset h h'] at hx
  rw [hread, hwrite, hafter, State.readEram, State.writeEram, hx]
  cases x
  case disabled => exact ⟨rfl, rfl⟩
  case unmodelled => exact ⟨rfl, rfl, rfl⟩
  case cell index => exact ⟨rfl, rfl⟩

/-- Settles O43: what the access reaches, controller by controller, and what an access does there. -/
theorem externalRam : Obligations.ExternalRam := by
  intro s a v h h' off absent cell
  have hle : a.toNat ≤ 0xBFFF := Nat.le_of_lt_succ h'
  have hdisabled (hx : s.cart.eramAccess off = .disabled) : absent := State.eram_of_access h hle hx v
  have hcell {index : Nat} (hx : s.cart.eramAccess off = .cell index) : cell index := State.eram_of_access h hle hx v
  refine ⟨fun hc => hcell (by rw [Cart.eramAccess, hc]), fun r hc => ⟨fun ho => hdisabled ?_, fun he hz => hcell ?_⟩,
    fun r hc => ⟨fun he => hdisabled ?_, fun he hb hz => hdisabled ?_, fun he hb hz => hcell ?_,
      fun he hb => State.eram_of_access h hle (x := .unmodelled) ?_ v⟩⟩
  all_goals rw [Cart.eramAccess, hc]
  · exact if_pos ho
  · exact if_neg (by simp [he, hz])
  · exact if_pos he
  · simp [he, hz, Nat.not_le.mpr (Nat.lt_succ_of_le hb)]
  · simp [he, hz, Nat.not_le.mpr (Nat.lt_succ_of_le hb)]
  · simp [he, hb]

end Sys2Proof.Machine
end

section
/-! PROOF. OAM DMA (R96). -/

namespace Sys2Proof.Machine

/-! ### Reads that the count of draws cannot change -/

/-- A read that is no draw does not see the count of draws. -/
theorem State.readRegion_draws {s : State} {r : Region} (h : s.drawsAt r = false) (n : Nat) :
    ({ s with draws := n } : State).readRegion r = s.readRegion r := by
  cases r
  case unusable => contradiction
  case eram off =>
    have hx : s.cart.eramAccess off ≠ .unmodelled := fun hx => by simp [State.drawsAt, hx] at h
    simp only [State.readRegion, State.readEram]
    cases hc : s.cart.eramAccess off
    case unmodelled => exact absurd hc hx
    all_goals rfl
  all_goals rfl

/-- A read that is a draw gives the free byte at the count of draws (R77, R80). -/
theorem State.readRegion_of_draw {s : State} {r : Region} (h : s.drawsAt r = true) : s.readRegion r = Config.freeByte s.draws := by
  cases r
  case unusable => rfl
  case eram off =>
    have hx : s.cart.eramAccess off = .unmodelled := by simpa [State.drawsAt] using h
    simp only [State.readRegion, State.readEram, hx]
  all_goals contradiction

/-! ### The copy, byte by byte -/

theorem State.dmaCopy_succ (n : Nat) (src : Word) (off : Nat) (s : State) :
    State.dmaCopy (n + 1) src off s = State.dmaCopy n (src + 1) (off + 1)
      { s with oam := s.oam.write off (s.readByte src), draws := (s.afterRead src).draws } := by
  rw [State.dmaCopy]
  obtain h | h := s.afterRead_cases src <;> rw [h]

/-- The copy writes OAM and takes draws. -/
theorem State.dmaCopy_eq (n : Nat) (src : Word) (off : Nat) (s : State) :
    State.dmaCopy n src off s =
      { s with oam := (State.dmaCopy n src off s).oam, draws := (State.dmaCopy n src off s).draws } := by
  induction n generalizing src off s with
  | zero => rfl
  | succ n ih =>
    rw [State.dmaCopy_succ]
    exact ih _ _ _

/-- The copy leaves the OAM bytes outside its range alone. -/
theorem State.dmaCopy_read_other {s : State} (hs : s.oam.Wf) (n : Nat) (src : Word) {off j : Nat} (hj : j < off ∨ off + n ≤ j) :
    (State.dmaCopy n src off s).oam.read j = s.oam.read j := by
  induction n generalizing src off s with
  | zero => rfl
  | succ n ih =>
    rw [State.dmaCopy_succ, ih (Memory.write_wf hs _ _) _ (by omega), Memory.read_write_ne hs _ (by omega)]

theorem add_ofNat_succ (a : Word) (i : Nat) : a + BitVec.ofNat 16 (i + 1) = a + 1 + BitVec.ofNat 16 i := by
  rw [Nat.add_comm, BitVec.ofNat_add, BitVec.add_assoc]
  rfl

/-- Byte i of the copy is what a read of its source gives after the bytes before it were copied. -/
theorem State.dmaCopy_read {s : State} (hs : s.oam.Wf) {i n : Nat} (hi : i < n) (src : Word) (off : Nat) :
    (State.dmaCopy n src off s).oam.read (off + i) = (State.dmaCopy i src off s).readByte (src + BitVec.ofNat 16 i) := by
  induction i generalizing src off s n with
  | zero =>
    obtain ⟨n, rfl⟩ := Nat.exists_eq_add_one.mpr hi
    rw [State.dmaCopy_succ, State.dmaCopy_read_other (Memory.write_wf hs _ _) _ _ (by omega), Nat.add_zero,
      Memory.read_write_same hs, BitVec.add_zero]
    rfl
  | succ i ih =>
    obtain ⟨n, rfl⟩ := Nat.exists_eq_add_one.mpr (Nat.zero_lt_of_lt hi)
    rw [add_ofNat_succ, State.dmaCopy_succ, State.dmaCopy_succ, Nat.add_comm i 1, ← Nat.add_assoc]
    exact ih (Memory.write_wf hs _ _) (Nat.lt_of_succ_lt_succ hi) _ _

/-- A copy whose bytes are draws takes one for each. -/
theorem State.dmaCopy_draws {s : State} {n : Nat} {src : Word} (off : Nat)
    (h : ∀ i < n, s.drawsAt (regionOf (src + BitVec.ofNat 16 i)) = true) :
    (State.dmaCopy n src off s).draws = s.draws + n := by
  induction n generalizing s src off with
  | zero => rfl
  | succ n ih =>
    have h0 : (s.afterRead src).draws = s.draws + 1 := by
      rw [State.afterRead, if_pos (by simpa using h 0 (Nat.succ_pos n))]
    rw [State.dmaCopy_succ, ih (off + 1) fun i hi => ?_]
    · rw [h0, Nat.add_assoc, Nat.add_comm 1]
    · rw [← add_ofNat_succ, State.drawsAt_of_cart_eq rfl]
      exact h (i + 1) (Nat.succ_lt_succ hi)

/-! ### The source -/

/-- Outside external RAM and the unusable region no read is a draw. -/
theorem State.drawsAt_of_plain_row (s : State) {a : Word} (he : a.toNat < 0xA000 ∨ 0xC000 ≤ a.toNat)
    (hu : a.toNat < 0xFEA0 ∨ 0xFF00 ≤ a.toNat) : s.drawsAt (regionOf a) = false := by
  unfold regionOf
  split_ifs <;> [rfl; rfl; omega; rfl; rfl; rfl; omega; rfl; rfl; rfl]

theorem Cart.eramAccess_unmodelled_iff (c : Cart) (off off' : Nat) :
    c.eramAccess off = .unmodelled ↔ c.eramAccess off' = .unmodelled := by
  unfold Cart.eramAccess
  cases c.controller with
  | direct => simp only [reduceCtorEq]
  | mbc1 r | mbc3 r =>
    dsimp only
    split_ifs <;> exact Iff.rfl

theorem regionOf_eq_oam {a : Word} {j : Nat} (h : regionOf a = .oam j) : a.toNat = 0xFE00 + j := by
  unfold regionOf at h
  split_ifs at h
  have := Region.oam.inj h
  omega

/-- The source address of byte i of a copy. -/
theorem dmaSource_toNat (v : Byte) {i : Nat} (hi : i < 160) : (BitVec.ofNat 16 (v.toNat * 256 + i)).toNat = v.toNat * 256 + i := by
  have := v.isLt
  rw [BitVec.toNat_ofNat]
  omega

theorem dmaSource_eq (v : Byte) (i : Nat) : mkWord v 0 + BitVec.ofNat 16 i = BitVec.ofNat 16 (v.toNat * 256 + i) := by
  have hv : mkWord v 0 = BitVec.ofNat 16 (v.toNat * 256) := by
    have := v.isLt
    refine BitVec.eq_of_toNat_eq ?_
    rw [toNat_mkWord, BitVec.toNat_ofNat, show (0 : Byte).toNat = 0 from rfl]
    omega
  rw [hv, BitVec.ofNat_add]

/-- All bytes of a source page are draws, or none is. -/
theorem State.drawsAt_dmaSource (s : State) (v : Byte) {i : Nat} (hi : i < 160) :
    s.drawsAt (regionOf (BitVec.ofNat 16 (v.toNat * 256 + i))) = s.drawsAt (regionOf (BitVec.ofNat 16 (v.toNat * 256 + 0))) := by
  have h0 := dmaSource_toNat v (i := 0) (by decide)
  have h := dmaSource_toNat v hi
  by_cases he : 0xA0 ≤ v.toNat ∧ v.toNat < 0xC0
  · rw [regionOf_eram (by omega) (by omega), regionOf_eram (by omega) (by omega)]
    exact Bool.eq_iff_iff.mpr (by simpa [State.drawsAt] using s.cart.eramAccess_unmodelled_iff _ _)
  · rw [s.drawsAt_of_plain_row (by omega) (by omega), s.drawsAt_of_plain_row (by omega) (by omega)]

/-- What a read sees of a state that differs in OAM and in the count of draws. -/
theorem State.readByte_of_oam {s : State} {a : Word} (h : s.drawsAt (regionOf a) = false) {oam : Memory} (n : Nat)
    (ho : ∀ j, regionOf a = .oam j → oam.read j = s.oam.read j) :
    ({ s with oam := oam, draws := n } : State).readByte a = s.readByte a := by
  unfold State.readByte
  rw [← State.readRegion_draws h n]
  cases hr : regionOf a
  case oam j => exact ho j hr
  all_goals rfl

/-- Settles O48: each byte is a read of the state before it is written (`State.dmaCopy_read`), in which the bytes copied so far are not
those of its source, or a draw. -/
theorem oamDma : Obligations.OamDma := by
  intro s v hs t s1 src
  have ht : t = State.dmaCopy 160 (mkWord v 0) 0 s1 := (s.io_access (a := 0xFF46) .dma v).1
  have hbyte {i : Nat} (hi : i < 160) : t.oam.read i = (State.dmaCopy i (mkWord v 0) 0 s1).readByte (src i) := by
    have h := State.dmaCopy_read (s := s1) hs hi (mkWord v 0) 0
    rwa [Nat.zero_add, ← ht, dmaSource_eq] at h
  refine ⟨?frame, ?dma, fun i hi h => ?byte, fun i hi h => ?draw, fun off ho => ?other⟩
  case frame =>
    rw [ht]
    exact State.dmaCopy_eq _ _ _ _
  case dma =>
    rw [(t.io_access (a := 0xFF46) .dma 0).2, ht]
    exact State.dmaCopy_dma _ _ _ _
  case byte =>
    rw [hbyte hi, State.dmaCopy_eq]
    refine State.readByte_of_oam ((s1.drawsAt_dmaSource v hi).trans h) _ fun j hj => ?_
    have hj' := regionOf_eq_oam hj
    rw [dmaSource_toNat v hi] at hj'
    exact State.dmaCopy_read_other (s := s1) hs _ _ (.inr (by omega))
  case draw =>
    have hdraw {k : Nat} (hk : k < 160) : s1.drawsAt (regionOf (src k)) = true := (s1.drawsAt_dmaSource v hk).trans h
    have hdraws : (State.dmaCopy i (mkWord v 0) 0 s1).draws = s.draws + i :=
      State.dmaCopy_draws 0 fun k hk => by
        rw [dmaSource_eq]
        exact hdraw (Nat.lt_trans hk hi)
    rw [hbyte hi, State.readByte, State.readRegion_of_draw, hdraws]
    rw [State.drawsAt_of_cart_eq (State.dmaCopy_cart _ _ _ _)]
    exact hdraw hi
  case other =>
    rw [ht]
    exact State.dmaCopy_read_other (s := s1) hs _ _ (.inr (by omega))

end Sys2Proof.Machine
end

section
/-! PROOF. The frames of the instructions (R60, R61, R66, R150): an instruction stores to the addresses of `storedAt` and nowhere
else. -/

namespace Sys2Proof.Machine

/-! ### What an instruction stores -/

/-- `t` comes from `s` by stores to the addresses listed, in that order; beside them only the CPU's own state and the count of draws
change. -/
inductive Stores : List Word → State → State → Prop where
  | done (s : State) : Stores [] s s
  /-- The registers, the cost, the control state or the count of draws change. -/
  | cpu {stored : List Word} {s t : State} (regs : Regs) (ime : Bool) (eiDelay : Nat) (halted : Bool) (fatal : Option FatalRecord)
      (cycles draws : Nat)
      (h : Stores stored { s with
        regs := regs, ime := ime, eiDelay := eiDelay, halted := halted, fatal := fatal, cycles := cycles, draws := draws } t) :
      Stores stored s t
  /-- A byte is written. -/
  | write {stored : List Word} {s t : State} {a : Word} (v : Byte) (h : Stores stored (s.writeByte a v) t) :
      Stores (a :: stored) s t

theorem Stores.of_cpu {s : State} (regs : Regs) (ime : Bool) (eiDelay : Nat) (halted : Bool) (fatal : Option FatalRecord)
    (cycles draws : Nat) :
    Stores [] s { s with
      regs := regs, ime := ime, eiDelay := eiDelay, halted := halted, fatal := fatal, cycles := cycles, draws := draws } :=
  .cpu regs ime eiDelay halted fatal cycles draws (.done _)

theorem Stores.read {stored : List Word} {s t : State} (a : Word) (h : Stores stored (s.afterRead a) t) : Stores stored s t := by
  rw [s.afterRead_draws a] at h
  exact .cpu _ _ _ _ _ _ _ h

theorem Stores.setReg8 {stored : List Word} {s t : State} (r : Reg8) (v : Byte) (h : Stores stored (s.setReg8 r v) t) :
    Stores stored s t := by
  cases r <;> exact .cpu _ _ _ _ _ _ _ h

/-! ### The shared operations -/

theorem stores_jump (s : State) (t : Word) (n : Nat) : Stores [] s (s.jump t n) := .of_cpu _ _ _ _ _ _ _

theorem stores_retire (s : State) (k : Word) (n : Nat) : Stores [] s (s.retire k n) := .of_cpu _ _ _ _ _ _ _

theorem stores_setReg8 (s : State) (r : Reg8) (v : Byte) (k : Word) (n : Nat) : Stores [] s ((s.setReg8 r v).retire k n) :=
  .setReg8 r v (stores_retire _ k n)

theorem stores_alu (s : State) (op : AluOp) (v : Byte) (k : Word) (n : Nat) : Stores [] s ((s.aluWith op v).retire k n) :=
  .of_cpu _ _ _ _ _ _ _

theorem stores_setReg16 (s : State) (r : Reg16) (v k : Word) (n : Nat) : Stores [] s ((s.setReg16 r v).retire k n) := by
  cases r <;> exact .of_cpu _ _ _ _ _ _ _

theorem stores_load8 (s : State) (dst : Reg8) (a k : Word) (n : Nat) : Stores [] s (s.load8 dst a k n) :=
  .read a (.setReg8 dst (s.readByte a) (stores_retire _ k n))

theorem stores_load8_setHl (s : State) (dst : Reg8) (a k v : Word) (n : Nat) : Stores [] s ((s.load8 dst a k n).setHl v) :=
  .read a (.setReg8 dst (s.readByte a) (.of_cpu _ _ _ _ _ _ _))

theorem stores_store8 (s : State) (a k : Word) (v : Byte) (n : Nat) : Stores [a] s (s.store8 a v k n) :=
  .write v (stores_retire _ k n)

theorem stores_store8_setHl (s : State) (a k w : Word) (v : Byte) (n : Nat) : Stores [a] s ((s.store8 a v k n).setHl w) :=
  .write v (.of_cpu _ _ _ _ _ _ _)

theorem stores_storeWord (s : State) (a v k : Word) (n : Nat) : Stores [a, a + 1] s (s.storeWord a v k n) :=
  .write (loByte v) (.write (hiByte v) (stores_retire _ k n))

/-- The two addresses a push stores to (R173). -/
theorem stores_push16 {s t : State} (v : Word) (h : Stores [] (s.push16 v) t) : Stores [s.regs.sp - 1, s.regs.sp - 2] s t :=
  .write (hiByte v) (.write (loByte v) (.cpu _ _ _ _ _ _ _ h))

theorem stores_push (s : State) (v k : Word) (n : Nat) : Stores [s.regs.sp - 1, s.regs.sp - 2] s ((s.push16 v).retire k n) :=
  stores_push16 v (stores_retire _ k n)

theorem stores_call (s : State) (t : Word) : Stores [s.regs.sp - 1, s.regs.sp - 2] s (s.call t) :=
  stores_push16 _ (stores_jump _ t 24)

theorem stores_callIf (s : State) (cc : Cond) (t : Word) :
    Stores (if condHolds s.regs.f cc then [s.regs.sp - 1, s.regs.sp - 2] else []) s (s.callIf cc t) := by
  unfold State.callIf
  split
  · exact stores_call s t
  · exact stores_retire s 3 12

theorem stores_restart (s : State) (y : Fin 8) : Stores [s.regs.sp - 1, s.regs.sp - 2] s (s.restart y) :=
  stores_push16 _ (stores_jump _ _ 16)

theorem stores_pop16 {stored : List Word} {s t : State} (h : Stores stored s.pop16.2 t) : Stores stored s t :=
  .read s.regs.sp (.read (s.regs.sp + 1) (.cpu _ _ _ _ _ _ _ h))

theorem stores_setStackReg (s : State) (r : StackReg) (v k : Word) (n : Nat) : Stores [] s ((s.setStackReg r v).retire k n) := by
  cases r <;> exact .of_cpu _ _ _ _ _ _ _

theorem stores_popReg (s : State) (r : StackReg) : Stores [] s (s.popReg r) := stores_pop16 (stores_setStackReg _ r _ 1 12)

theorem stores_returnWith (s : State) (n : Nat) : Stores [] s (s.returnWith n) := stores_pop16 (stores_jump _ _ n)

theorem stores_setIme (s : State) (v : Word) (n : Nat) : Stores [] s (State.spend { s.setPc v with ime := true } n) :=
  .of_cpu _ _ _ _ _ _ _

theorem stores_reti (s : State) (n : Nat) : Stores [] s (s.returnFromInterrupt.spend n) :=
  stores_pop16 (stores_setIme s.pop16.2 s.pop16.1 n)

theorem stores_returnIf (s : State) (cc : Cond) : Stores [] s (s.returnIf cc) := by
  unfold State.returnIf
  split
  · exact stores_returnWith s 20
  · exact stores_retire s 1 8

theorem stores_jumpIf (s : State) (cc : Cond) (t : Word) : Stores [] s (s.jumpIf cc t) := by
  unfold State.jumpIf
  split
  · exact stores_jump s t 16
  · exact stores_retire s 3 12

theorem stores_jumpRelativeIf (s : State) (cc : Cond) (e : Byte) : Stores [] s (s.jumpRelativeIf cc e) := by
  unfold State.jumpRelativeIf
  split
  · exact stores_jump s _ 12
  · exact stores_retire s 2 8

theorem stores_aluAtHl (s : State) (op : AluOp) : Stores [] s (s.aluAtHl op) := .read s.hl (.of_cpu _ _ _ _ _ _ _)

/-- The address that a write to an operand stores to. -/
def State.storedTo (s : State) : Operand8 → List Word
  | .reg _ => []
  | .atHl => [s.hl]

theorem stores_testBit (s : State) (b : Fin 8) (o : Operand8) : Stores [] s (s.testBit b o) := by
  cases o with
  | reg r => exact .of_cpu _ _ _ _ _ _ _
  | atHl => exact .read s.hl (.of_cpu _ _ _ _ _ _ _)

/-- An operand is read and then written (R124). -/
theorem stores_modify {s t : State} (o : Operand8) (v : Byte) (h : Stores [] ((s.readOperand o).2.writeOperand o v) t) :
    Stores (s.storedTo o) s t := by
  cases o with
  | reg r => exact .setReg8 r v h
  | atHl =>
    have hhl : (s.afterRead s.hl).hl = s.hl := by simp [State.hl]
    refine .read s.hl (.write v ?_)
    rwa [State.writeOperand, show (s.readOperand .atHl).2 = s.afterRead s.hl from rfl, hhl] at h

theorem stores_incOperand (s : State) (o : Operand8) : Stores (s.storedTo o) s (s.incOperand o) :=
  stores_modify o _ (.of_cpu _ _ _ _ _ _ _)

theorem stores_decOperand (s : State) (o : Operand8) : Stores (s.storedTo o) s (s.decOperand o) :=
  stores_modify o _ (.of_cpu _ _ _ _ _ _ _)

theorem stores_rotateOperand (s : State) (op : RotOp) (o : Operand8) : Stores (s.storedTo o) s (s.rotateOperand op o) :=
  stores_modify o _ (.of_cpu _ _ _ _ _ _ _)

theorem stores_resetBit (s : State) (b : Fin 8) (o : Operand8) : Stores (s.storedTo o) s (s.resetBit b o) :=
  stores_modify o _ (.of_cpu _ _ _ _ _ _ _)

theorem stores_assignBit (s : State) (b : Fin 8) (o : Operand8) : Stores (s.storedTo o) s (s.assignBit b o) :=
  stores_modify o _ (.of_cpu _ _ _ _ _ _ _)

theorem State.storedTo_reg8Sel (s : State) (z : Fin 8) : s.storedTo (reg8Sel z) = if z = 6 then [s.hl] else [] := by
  fin_cases z <;> rfl

/-- A CB instruction on (HL) stores there, unless it is a BIT (R129, R273). -/
theorem stores_runCb (s : State) (op2 : Byte) :
    Stores (if fieldZ op2 = 6 ∧ fieldX op2 ≠ 1 then [s.hl] else []) s (s.runCb op2) := by
  have hstored (hx : fieldX op2 ≠ 1) :
      (if fieldZ op2 = 6 ∧ fieldX op2 ≠ 1 then [s.hl] else []) = s.storedTo (reg8Sel (fieldZ op2)) := by
    simp only [s.storedTo_reg8Sel, hx, ne_eq, not_false_eq_true, and_true]
  unfold State.runCb
  generalize hgoal : (if fieldZ op2 = 6 ∧ fieldX op2 ≠ 1 then [s.hl] else []) = stored
  split
  case h_1 hx =>
    rw [← hgoal, hstored (by rw [hx]; decide)]
    exact stores_rotateOperand s _ _
  case h_2 hx =>
    rw [← hgoal, if_neg fun h => h.2 hx]
    exact stores_testBit s _ _
  case h_3 hx =>
    rw [← hgoal, hstored (by rw [hx]; decide)]
    exact stores_resetBit s _ _
  case h_4 hx =>
    rw [← hgoal, hstored (by rw [hx]; decide)]
    exact stores_assignBit s _ _

/-! ### Every instruction -/

/-- An instruction stores to the addresses of `storedAt`. -/
theorem exec_stores (i : Instr) (s : State) : ∃ t, exec i s = .next t ∧ Stores (storedAt i s) s t := by
  cases i
  -- the stores
  case ldAtHlN | ldAtHlB | ldAtHlC | ldAtHlD | ldAtHlE | ldAtHlH | ldAtHlL | ldAtHlA | ldhAtNA | ldAtNnA | ldAtBcA |
    ldAtDeA | ldhAtCA =>
    exact ⟨_, rfl, stores_store8 s _ _ _ _⟩
  case ldAtHlIncA | ldAtHlDecA =>
    exact ⟨_, rfl, stores_store8_setHl s _ _ _ _ _⟩
  case ldAtNnSp =>
    exact ⟨_, rfl, stores_storeWord s _ _ _ _⟩
  case pushBc | pushDe | pushHl | pushAf =>
    exact ⟨_, rfl, stores_push s _ _ _⟩
  case callNn =>
    exact ⟨_, rfl, stores_call s _⟩
  case callNzNn | callZNn | callNcNn | callCNn =>
    exact ⟨_, rfl, stores_callIf s _ _⟩
  case rst00 | rst08 | rst10 | rst18 | rst20 | rst28 | rst30 | rst38 =>
    exact ⟨_, rfl, stores_restart s _⟩
  case incAtHl =>
    exact ⟨_, rfl, stores_incOperand s .atHl⟩
  case decAtHl =>
    exact ⟨_, rfl, stores_decOperand s .atHl⟩
  case rlcAtHl | rrcAtHl | rlAtHl | rrAtHl | slaAtHl | sraAtHl | swapAtHl | srlAtHl =>
    exact ⟨_, rfl, stores_rotateOperand s _ .atHl⟩
  case res0AtHl | res1AtHl | res2AtHl | res3AtHl | res4AtHl | res5AtHl | res6AtHl | res7AtHl =>
    exact ⟨_, rfl, stores_resetBit s _ .atHl⟩
  case set0AtHl | set1AtHl | set2AtHl | set3AtHl | set4AtHl | set5AtHl | set6AtHl | set7AtHl =>
    exact ⟨_, rfl, stores_assignBit s _ .atHl⟩
  case prefixCb op2 =>
    exact ⟨_, rfl, stores_runCb s op2⟩
  -- the instructions that read memory and store nothing
  case ldhAAtN | ldAAtNn | ldAAtBc | ldAAtDe | ldBAtHl | ldCAtHl | ldDAtHl | ldEAtHl | ldHAtHl | ldLAtHl | ldAAtHl |
    ldhAAtC =>
    exact ⟨_, rfl, stores_load8 s _ _ _ _⟩
  case ldAAtHlInc | ldAAtHlDec =>
    exact ⟨_, rfl, stores_load8_setHl s _ _ _ _ _⟩
  case popBc | popDe | popHl | popAf =>
    exact ⟨_, rfl, stores_popReg s _⟩
  case ret =>
    exact ⟨_, rfl, stores_returnWith s _⟩
  case reti =>
    exact ⟨_, rfl, stores_reti s _⟩
  case retNz | retZ | retNc | retC =>
    exact ⟨_, rfl, stores_returnIf s _⟩
  case addAAtHl | adcAAtHl | subAtHl | sbcAAtHl | andAtHl | xorAtHl | orAtHl | cpAtHl =>
    exact ⟨_, rfl, stores_aluAtHl s _⟩
  case bit0AtHl | bit1AtHl | bit2AtHl | bit3AtHl | bit4AtHl | bit5AtHl | bit6AtHl | bit7AtHl =>
    exact ⟨_, rfl, stores_testBit s _ .atHl⟩
  -- the conditional jumps
  case jpNzNn | jpZNn | jpNcNn | jpCNn =>
    exact ⟨_, rfl, stores_jumpIf s _ _⟩
  case jrNzE | jrZE | jrNcE | jrCE =>
    exact ⟨_, rfl, stores_jumpRelativeIf s _ _⟩
  -- the instructions that work on registers
  case ldBcNn | ldDeNn | ldHlNn | ldSpNn | incBc | decBc | incDe | decDe | incHl | decHl | incSp | decSp =>
    exact ⟨_, rfl, stores_setReg16 s _ _ _ _⟩
  case ldBN | ldCN | ldDN | ldEN | ldHN | ldLN | ldAN | ldBB | ldBC | ldBD | ldBE | ldBH | ldBL | ldBA | ldCB | ldCC | ldCD |
    ldCE | ldCH | ldCL | ldCA | ldDB | ldDC | ldDD | ldDE | ldDH | ldDL | ldDA | ldEB | ldEC | ldED | ldEE | ldEH | ldEL |
    ldEA | ldHB | ldHC | ldHD | ldHE | ldHH | ldHL | ldHA | ldLB | ldLC | ldLD | ldLE | ldLH | ldLL | ldLA | ldAB | ldAC |
    ldAD | ldAE | ldAH | ldAL | ldAA =>
    exact ⟨_, rfl, stores_setReg8 s _ _ _ _⟩
  case addAN | adcAN | subN | sbcAN | andN | xorN | orN | cpN | addAB | addAC | addAD | addAE | addAH | addAL | addAA |
    adcAB | adcAC | adcAD | adcAE | adcAH | adcAL | adcAA | subB | subC | subD | subE | subH | subL | subA | sbcAB | sbcAC |
    sbcAD | sbcAE | sbcAH | sbcAL | sbcAA | andB | andC | andD | andE | andH | andL | andA | xorB | xorC | xorD | xorE |
    xorH | xorL | xorA | orB | orC | orD | orE | orH | orL | orA | cpB | cpC | cpD | cpE | cpH | cpL | cpA =>
    exact ⟨_, rfl, stores_alu s _ _ _ _⟩
  case incB | incC | incD | incE | incH | incL | incA =>
    exact ⟨_, rfl, stores_incOperand s (.reg _)⟩
  case decB | decC | decD | decE | decH | decL | decA =>
    exact ⟨_, rfl, stores_decOperand s (.reg _)⟩
  case rlcB | rlcC | rlcD | rlcE | rlcH | rlcL | rlcA | rrcB | rrcC | rrcD | rrcE | rrcH | rrcL | rrcA | rlB | rlC | rlD |
    rlE | rlH | rlL | rlA | rrB | rrC | rrD | rrE | rrH | rrL | rrA | slaB | slaC | slaD | slaE | slaH | slaL | slaA |
    sraB | sraC | sraD | sraE | sraH | sraL | sraA | swapB | swapC | swapD | swapE | swapH | swapL | swapA | srlB | srlC |
    srlD | srlE | srlH | srlL | srlA =>
    exact ⟨_, rfl, stores_rotateOperand s _ (.reg _)⟩
  case bit0B | bit0C | bit0D | bit0E | bit0H | bit0L | bit0A | bit1B | bit1C | bit1D | bit1E | bit1H | bit1L | bit1A |
    bit2B | bit2C | bit2D | bit2E | bit2H | bit2L | bit2A | bit3B | bit3C | bit3D | bit3E | bit3H | bit3L | bit3A | bit4B |
    bit4C | bit4D | bit4E | bit4H | bit4L | bit4A | bit5B | bit5C | bit5D | bit5E | bit5H | bit5L | bit5A | bit6B | bit6C |
    bit6D | bit6E | bit6H | bit6L | bit6A | bit7B | bit7C | bit7D | bit7E | bit7H | bit7L | bit7A =>
    exact ⟨_, rfl, stores_testBit s _ (.reg _)⟩
  case res0B | res0C | res0D | res0E | res0H | res0L | res0A | res1B | res1C | res1D | res1E | res1H | res1L | res1A |
    res2B | res2C | res2D | res2E | res2H | res2L | res2A | res3B | res3C | res3D | res3E | res3H | res3L | res3A | res4B |
    res4C | res4D | res4E | res4H | res4L | res4A | res5B | res5C | res5D | res5E | res5H | res5L | res5A | res6B | res6C |
    res6D | res6E | res6H | res6L | res6A | res7B | res7C | res7D | res7E | res7H | res7L | res7A =>
    exact ⟨_, rfl, stores_resetBit s _ (.reg _)⟩
  case set0B | set0C | set0D | set0E | set0H | set0L | set0A | set1B | set1C | set1D | set1E | set1H | set1L | set1A |
    set2B | set2C | set2D | set2E | set2H | set2L | set2A | set3B | set3C | set3D | set3E | set3H | set3L | set3A | set4B |
    set4C | set4D | set4E | set4H | set4L | set4A | set5B | set5C | set5D | set5E | set5H | set5L | set5A | set6B | set6C |
    set6D | set6E | set6H | set6L | set6A | set7B | set7C | set7D | set7E | set7H | set7L | set7A =>
    exact ⟨_, rfl, stores_assignBit s _ (.reg _)⟩
  -- the rest: jumps, the accumulator and the flags, 16-bit sums, the control state
  all_goals exact ⟨_, rfl, .of_cpu _ _ _ _ _ _ _⟩

/-! ### The frames -/

/-- A change of the CPU's own state and of the count of draws is not seen in memory. -/
theorem State.readsAsBefore_cpu (s : State) (regs : Regs) (ime : Bool) (eiDelay : Nat) (halted : Bool) (fatal : Option FatalRecord)
    (cycles draws : Nat) (a : Word) :
    ReadsAsBefore s { s with
      regs := regs, ime := ime, eiDelay := eiDelay, halted := halted, fatal := fatal, cycles := cycles, draws := draws } a :=
  ⟨State.drawsAt_of_cart_eq rfl _, fun h => State.readRegion_draws h draws⟩

theorem ReadsAsBefore.trans {s t u : State} {a : Word} (h : ReadsAsBefore s t a) (h' : ReadsAsBefore t u a) :
    ReadsAsBefore s u a :=
  ⟨h'.1.trans h.1, fun hs => (h'.2 (h.1.trans hs)).trans (h.2 hs)⟩

/-- Without a store only the CPU's own state and the count of draws change. -/
theorem Stores.eq_of_nil {s t : State} (h : Stores [] s t) :
    t = { s with regs := t.regs, ime := t.ime, eiDelay := t.eiDelay, halted := t.halted, fatal := t.fatal,
                 cycles := t.cycles, draws := t.draws } := by
  generalize hl : ([] : List Word) = stored at h
  induction h with
  | done s => rfl
  | cpu regs ime eiDelay halted fatal cycles draws h ih => exact ih hl
  | write v h ih => cases hl

/-- Settles O31: without a store only the CPU's own state and the count of draws change, and no read sees those. -/
theorem noStoreFrame : Obligations.NoStoreFrame := by
  intro i s hnone
  obtain ⟨t, ht, hstores⟩ := exec_stores i s
  have heq := (hnone ▸ hstores).eq_of_nil
  exact ⟨t, ht, heq, fun a => heq ▸ s.readsAsBefore_cpu _ _ _ _ _ _ _ a⟩

/-- What stores to plain RAM at the addresses listed leave as it was. -/
structure RamFrame (stored : List Word) (s t : State) : Prop where
  rest : t = { s with regs := t.regs, ime := t.ime, eiDelay := t.eiDelay, halted := t.halted, fatal := t.fatal,
                      cycles := t.cycles, draws := t.draws, vram := t.vram, wram := t.wram, oam := t.oam, hram := t.hram }
  reads : ∀ a : Word, (∀ w ∈ stored, regionOf a ≠ regionOf w) → ReadsAsBefore s t a

theorem State.writeByte_ramWf {s : State} (hs : s.RamWf) {a : Word} (ha : (regionOf a).isRam = true) (v : Byte) :
    (s.writeByte a v).RamWf := by
  obtain ⟨hvram, hwram, hoam, hhram⟩ := hs
  unfold State.writeByte
  generalize regionOf a = r at ha ⊢
  cases r <;> try contradiction
  case vram off => exact ⟨Memory.write_wf hvram off v, hwram, hoam, hhram⟩
  case wram off => exact ⟨hvram, Memory.write_wf hwram off v, hoam, hhram⟩
  case oam off => exact ⟨hvram, hwram, Memory.write_wf hoam off v, hhram⟩
  case hram off => exact ⟨hvram, hwram, hoam, Memory.write_wf hhram off v⟩

theorem Stores.ramFrame {stored : List Word} {s t : State} (h : Stores stored s t) (hs : s.RamWf)
    (hram : ∀ w ∈ stored, (regionOf w).isRam = true) : RamFrame stored s t := by
  induction h with
  | done s => exact ⟨rfl, fun a _ => ⟨rfl, fun _ => rfl⟩⟩
  | cpu regs ime eiDelay halted fatal cycles draws h ih =>
    obtain ⟨hrest, hreads⟩ := ih hs hram
    exact ⟨hrest, fun a ha => (State.readsAsBefore_cpu _ _ _ _ _ _ _ _ a).trans (hreads a ha)⟩
  | @write stored s t w v h ih =>
    obtain ⟨hw, hstored⟩ := List.forall_mem_cons.mp hram
    obtain ⟨hrest, hreads⟩ := ih (State.writeByte_ramWf hs hw v) hstored
    refine ⟨?_, fun a ha => ?_⟩
    · rw [s.writeByte_ram hw v] at hrest
      exact hrest
    · obtain ⟨haw, ha⟩ := List.forall_mem_cons.mp ha
      exact (State.readsAsBefore_writeByte_ram hs hw haw v).trans (hreads a ha)

/-- Settles O32: each store to plain RAM leaves every other cell and the devices alone, and these frames compose. -/
theorem storeFrame : Obligations.StoreFrame := by
  intro i s hvram hwram hoam hhram hram
  obtain ⟨t, ht, hstores⟩ := exec_stores i s
  obtain ⟨hrest, hreads⟩ := hstores.ramFrame ⟨hvram, hwram, hoam, hhram⟩ hram
  exact ⟨t, ht, hrest, hreads⟩

end Sys2Proof.Machine
end

section
/-! PROOF. The boot overlay along a step (R70, R71), and the parts of a step (R109, R134, R150, R350, R351). -/

namespace Sys2Proof.Machine

/-! ### What the end of a step leaves to its start -/

/-- The boot overlay and the host's input move at the start of a step alone. -/
theorem State.interruptPhase_input (s : State) :
    s.interruptPhase.bootActive = s.bootActive ∧ s.interruptPhase.joypInput = s.joypInput ∧
      s.interruptPhase.joypQueue = s.joypQueue := by
  obtain h | h | ⟨i, h⟩ := s.interruptPhase_cases <;> rw [h] <;> simp

theorem State.eiCountdown_input (s : State) :
    s.eiCountdown.bootActive = s.bootActive ∧ s.eiCountdown.joypInput = s.joypInput ∧ s.eiCountdown.joypQueue = s.joypQueue := by
  unfold State.eiCountdown
  split <;> exact ⟨rfl, rfl, rfl⟩

theorem State.finishStep_of_running {s : State} (h : s.fatal = none) :
    s.finishStep = (s.eiCountdown.advance s.cycles).interruptPhase := if_pos h

theorem State.finishStep_of_fatal {s : State} (h : s.fatal ≠ none) : s.finishStep = s := if_neg h

theorem State.finishStep_input (s : State) :
    s.finishStep.bootActive = s.bootActive ∧ s.finishStep.joypInput = s.joypInput ∧ s.finishStep.joypQueue = s.joypQueue := by
  by_cases hf : s.fatal = none
  · rw [State.finishStep_of_running hf]
    obtain ⟨hboot, hinput, hqueue⟩ := s.eiCountdown_input
    simpa [hboot, hinput, hqueue] using (s.eiCountdown.advance s.cycles).interruptPhase_input
  · rw [State.finishStep_of_fatal hf]
    exact ⟨rfl, rfl, rfl⟩

theorem State.haltedStep_bootActive (s : State) : s.haltedStep.bootActive = s.bootActive := by
  rw [State.haltedStep, (State.interruptPhase_input _).1, State.advance_bootActive]
  rfl

theorem State.fetch_bootActive (s : State) : s.fetch.2.bootActive = s.bootActive := by rw [State.fetch_eq]

theorem Shape.bootActive {s t : State} (h : Shape s t) : t.bootActive = s.bootActive := by
  have hd := h.driven
  simp only [State.driven, Prod.mk.injEq] at hd
  obtain ⟨-, -, -, -, -, -, hboot, -, -⟩ := hd
  exact hboot

theorem State.beginStep_bootActive (s : State) :
    s.beginStep.bootActive = (s.bootActive && decide (s.regs.pc ≠ 0x0100)) := by rw [State.beginStep_eq]

/-- Settles O40: the overlay's bytes by its row of the map; along a step only the boot check moves it. -/
theorem bootOverlay : Obligations.BootOverlay := by
  refine ⟨fun s a hb ha => ?read, fun s t h => ?step⟩
  case read =>
    rw [State.readByte, regionOf_rom (Nat.lt_trans ha (by decide))]
    exact if_pos ⟨hb, ha⟩
  case step =>
    rw [← s.beginStep_bootActive]
    obtain ⟨-, ⟨-, rfl⟩ | ⟨-, u, hu, rfl⟩⟩ := step_cases h
    · exact State.haltedStep_bootActive _
    · rw [u.finishStep_input.1, (shape_of_exec hu).bootActive, State.fetch_bootActive]

/-! ### The bytes at PC hold one instruction -/

theorem decodeCb_wellFormed (op2 : Byte) : (decodeCb op2).wellFormed = true := by
  unfold decodeCb
  generalize fieldX op2 = x, fieldY op2 = y, fieldZ op2 = z
  revert x y z
  decide

theorem decodeX0_wellFormed (y z : Fin 8) (b1 b2 : Byte) : (decodeX0 y z b1 b2).wellFormed = true := by
  fin_cases y <;> fin_cases z <;> rfl

theorem decodeX1_wellFormed (y z : Fin 8) : (decodeX1 y z).wellFormed = true := by
  revert y z
  decide

theorem decodeX2_wellFormed (y z : Fin 8) : (decodeX2 y z).wellFormed = true := by
  revert y z
  decide

theorem decodeX3_wellFormed (y z : Fin 8) (b1 b2 : Byte) : (decodeX3 y z b1 b2).wellFormed = true := by
  fin_cases y <;> fin_cases z <;> try rfl
  exact decodeCb_wellFormed b1

/-- No bytes decode to `Instr.prefixCb` (R131). -/
theorem decodeAt_wellFormed (op b1 b2 : Byte) : (decodeAt op b1 b2).wellFormed = true := by
  unfold decodeAt
  split
  · exact decodeX0_wellFormed _ _ _ _
  · exact decodeX1_wellFormed _ _
  · exact decodeX2_wellFormed _ _
  · exact decodeX3_wellFormed _ _ _ _

theorem instrLength_cases (op : Byte) : instrLength op = 1 ∨ instrLength op = 2 ∨ instrLength op = 3 := by
  revert op
  decide

/-- The bytes at PC: the opcode, and as many operand bytes as it asks for (R120). -/
theorem State.fetchBytes_cons (s : State) :
    ∃ rest, s.fetchBytes.1 = s.readByte s.regs.pc :: rest ∧ rest.length = instrLength (s.readByte s.regs.pc) - 1 := by
  obtain ⟨n, hn⟩ : ∃ n, instrLength (s.readByte s.regs.pc) = n + 1 :=
    Nat.exists_eq_add_one.mpr (by have := instrLength_cases (s.readByte s.regs.pc); omega)
  refine ⟨(State.readBytes n (s.regs.pc + 1) (s.afterRead s.regs.pc)).1, ?_, ?_⟩
  · rw [State.fetchBytes, hn]
    rfl
  · rw [State.readBytes_length, hn, Nat.add_sub_cancel]

/-- The bytes at PC decode to the instruction of the fetch, and none is left over (R134). -/
theorem State.decode_fetchBytes (s : State) : decode s.fetchBytes.1 = .ok (s.fetch.1, []) := by
  obtain ⟨rest, hbytes, hlength⟩ := s.fetchBytes_cons
  rw [State.fetch, hbytes, decode, if_neg (by omega), List.drop_eq_nil_of_le (by omega)]
  rfl

theorem State.fetch_of_decode {s : State} {i : Instr} (h : decode s.fetchBytes.1 = .ok (i, [])) : s.fetch = (i, s.fetchBytes.2) := by
  rw [s.decode_fetchBytes] at h
  cases h
  rfl

/-- Reading a byte that is no draw, and then the bytes after it. -/
theorem State.readBytes_succ {s : State} {a : Word} (h : s.drawsAt (regionOf a) = false) (n : Nat) :
    State.readBytes (n + 1) a s = (s.readByte a :: (State.readBytes n (a + 1) s).1, (State.readBytes n (a + 1) s).2) := by
  rw [State.readBytes, State.afterRead_of_no_draw h]

/-- A fetch without draws reads its bytes and changes nothing (R109). -/
theorem State.fetchBytes_of_no_draw {s : State}
    (h : ∀ k : Nat, k < 3 → s.drawsAt (regionOf (s.regs.pc + BitVec.ofNat 16 k)) = false) :
    s.fetchBytes =
      ([s.readByte s.regs.pc, s.readByte (s.regs.pc + 1), s.readByte (s.regs.pc + 2)].take
        (instrLength (s.readByte s.regs.pc)), s) := by
  have h0 : s.drawsAt (regionOf s.regs.pc) = false := by simpa using h 0 (by decide)
  have h1 : s.drawsAt (regionOf (s.regs.pc + 1)) = false := h 1 (by decide)
  have h2 : s.drawsAt (regionOf (s.regs.pc + 2)) = false := h 2 (by decide)
  have hpc : s.regs.pc + 1 + 1 = s.regs.pc + 2 := BitVec.add_assoc _ 1 1
  rw [State.fetchBytes]
  obtain hn | hn | hn := instrLength_cases (s.readByte s.regs.pc) <;> rw [hn]
  · rw [State.readBytes_succ h0]
    rfl
  · rw [State.readBytes_succ h0, State.readBytes_succ h1]
    rfl
  · rw [State.readBytes_succ h0, State.readBytes_succ h1, hpc, State.readBytes_succ h2]
    rfl

/-! ### The step -/

theorem State.takeInput_of_nil {s : State} (h : s.joypQueue = []) : s.takeInput = s := by rw [State.takeInput, h]

theorem State.takeInput_of_cons {s : State} {input : Byte} {rest : List Byte} (h : s.joypQueue = input :: rest) :
    s.takeInput = { s with joypInput := input, joypQueue := rest } := by rw [State.takeInput, h]

theorem State.beginStep_halted (s : State) : s.beginStep.halted = s.halted := by rw [State.beginStep_eq]

/-- A step that starts neither Fatal nor halted is the instruction at PC and the rest of the step. -/
theorem step_of_decode {s u : State} {i : Instr} (hf : s.fatal = none) (hh : s.halted = false)
    (hd : decode s.beginStep.fetchBytes.1 = .ok (i, [])) (hu : exec i s.beginStep.fetchBytes.2 = .next u) :
    step s = .next u.finishStep :=
  step_of_exec hf (s.beginStep_halted.trans hh) (by rw [State.fetch_of_decode hd, hu])

/-- Settles O35: the parts of a step, each by its law. -/
theorem stepRuns : Obligations.StepRuns := by
  refine ⟨fun s => State.takeInput_of_nil, fun s input rest => State.takeInput_of_cons, fun s hb hpc => if_pos ⟨hb, hpc⟩,
    fun s h => if_neg ?noBootCheck, fun s => State.readBytes_eq _ _ _, fun s i => State.fetch_of_decode, fun s c => rfl,
    fun t => t.finishStep_input.2, fun s => ⟨_, s.decode_fetchBytes, decodeAt_wellFormed _ _ _⟩,
    fun s => State.fetchBytes_of_no_draw, fun s i hf hh hd => ?exec, fun t => State.finishStep_of_running,
    fun t => State.finishStep_of_fatal⟩
  case noBootCheck => exact not_and_or.mpr (h.imp_left (Bool.not_eq_true _).mpr)
  case exec =>
    obtain ⟨u, hu, -⟩ := exec_shape i s.beginStep.fetchBytes.2
    rw [hu]
    exact step_of_decode hf hh hd hu

end Sys2Proof.Machine
end

section
/-! PROOF. Which images load (R84, R85, R453). -/

namespace Sys2Proof.Machine

/-! ### The codes of the header -/

/-- The controllers that a type code selects (R84). -/
theorem selectController_direct {code : Byte} (h : code.toNat = 0x00 ∨ code.toNat = 0x08 ∨ code.toNat = 0x09) :
    selectController code = some .direct := if_pos h

theorem selectController_mbc1 {code : Byte} (h : 0x01 ≤ code.toNat ∧ code.toNat ≤ 0x03) :
    ∃ r, selectController code = some (.mbc1 r) := by
  simp [selectController, h, show ¬ (code.toNat = 0x00 ∨ code.toNat = 0x08 ∨ code.toNat = 0x09) by omega]

theorem selectController_mbc3 {code : Byte} (h : 0x0F ≤ code.toNat ∧ code.toNat ≤ 0x13) :
    ∃ r, selectController code = some (.mbc3 r) := by
  simp [selectController, h, show ¬ (code.toNat = 0x00 ∨ code.toNat = 0x08 ∨ code.toNat = 0x09) by omega,
    show ¬ (0x01 ≤ code.toNat ∧ code.toNat ≤ 0x03) by omega]

/-- A code that selects a controller is one of R84's. -/
theorem selectController_known {code : Byte} {c : Controller} (h : selectController code = some c) :
    (code.toNat = 0x00 ∨ code.toNat = 0x08 ∨ code.toNat = 0x09) ∨ (0x01 ≤ code.toNat ∧ code.toNat ≤ 0x03) ∨
      (0x0F ≤ code.toNat ∧ code.toNat ≤ 0x13) := by
  by_contra hn
  simp only [not_or] at hn
  obtain ⟨hdirect, hmbc1, hmbc3⟩ := hn
  simp [selectController, hdirect, hmbc1, hmbc3] at h

/-- The type code of a direct cartridge is one of three. -/
theorem selectController_eq_direct {code : Byte} (h : selectController code = some .direct) :
    code.toNat = 0x00 ∨ code.toNat = 0x08 ∨ code.toNat = 0x09 := by
  obtain hdirect | hmbc1 | hmbc3 := selectController_known h
  · exact hdirect
  · obtain ⟨r, hr⟩ := selectController_mbc1 hmbc1
    simp [hr] at h
  · obtain ⟨r, hr⟩ := selectController_mbc3 hmbc3
    simp [hr] at h

theorem romBanksOf_eq_some {code : Byte} {n : Nat} : romBanksOf code = some n ↔ code.toNat ≤ 8 ∧ n = 2 <<< code.toNat := by
  rw [romBanksOf, Nat.shiftLeft_eq]
  split
  · simp [*, eq_comm]
  · simp [*]

/-- The sizes of the RAM size codes, in order (R85). -/
theorem ramSizeOf_eq_some {code : Byte} {n : Nat} :
    ramSizeOf code = some n ↔ code.toNat ≤ 5 ∧ n = [0, 0x800, 0x2000, 0x8000, 0x20000, 0x10000].getD code.toNat 0 := by
  unfold ramSizeOf
  generalize code.toNat = m
  by_cases hm : m ≤ 5
  · interval_cases m <;> simp [eq_comm]
  · obtain ⟨k, rfl⟩ : ∃ k, m = k + 6 := ⟨m - 6, by omega⟩
    simp

/-! ### The load -/

/-- An image whose codes are known and whose length is the one they give loads. -/
theorem load_of_codes {cart boot : List Byte} (init : InitMem) {controller : Controller} {romBanks ramSize : Nat}
    (hboot : boot.length = 256) (hshort : 0x150 ≤ cart.length) (hsel : selectController (cart.getD 0x147 0) = some controller)
    (hrom : romBanksOf (cart.getD 0x148 0) = some romBanks) (hdirect : controller = .direct → cart.getD 0x148 0 = 0)
    (hlength : cart.length = romBanks * 0x4000) (hram : ramSizeOf (cart.getD 0x149 0) = some ramSize) :
    ∃ s, load cart boot init = .ok s := by
  unfold load
  rw [if_neg (not_not.mpr hboot), if_neg (Nat.not_lt.mpr hshort), hsel, hrom, hram]
  dsimp only
  rw [if_neg fun h => h.2 (hdirect h.1), if_neg (not_not.mpr hlength)]
  exact ⟨_, rfl⟩

/-- Settles O55: `load_cases` says what a load has found, `load_of_codes` that this is enough, and the laws of the three codes what
it is. -/
theorem loadGeometry : Obligations.LoadGeometry := by
  intro cart boot init code n m direct mbc1 mbc3
  refine ⟨⟨fun ⟨s, h⟩ => ?loads, fun h => ?codes⟩, fun h => if_pos h, fun hb hc => ?short, fun s h => ?geometry⟩
  case loads =>
    obtain ⟨hboot, controller, romBanks, ramSize, hsel, hrom, hdirect, hlength, hram, -⟩ := load_cases h
    obtain ⟨hn, rfl⟩ := romBanksOf_eq_some.mp hrom
    have hshort : 0x150 ≤ cart.length := by
      rw [hlength, Nat.shiftLeft_eq]
      have := Nat.one_le_two_pow (n := (cart.getD 0x148 0).toNat)
      omega
    refine ⟨hboot, hshort, selectController_known hsel, hn, fun hd => ?_, hlength, (ramSizeOf_eq_some.mp hram).1⟩
    have hc : controller = .direct := Option.some.inj (hsel.symm.trans (selectController_direct hd))
    exact congrArg BitVec.toNat (hdirect hc)
  case codes =>
    obtain ⟨hboot, hshort, hknown, hn, hdirect, hlength, hm⟩ := h
    obtain ⟨controller, hsel⟩ : ∃ controller, selectController (cart.getD 0x147 0) = some controller := by
      obtain hd | h1 | h3 := hknown
      · exact ⟨_, selectController_direct hd⟩
      · exact (selectController_mbc1 h1).elim fun r hr => ⟨_, hr⟩
      · exact (selectController_mbc3 h3).elim fun r hr => ⟨_, hr⟩
    refine load_of_codes init hboot hshort hsel (romBanksOf_eq_some.mpr ⟨hn, rfl⟩) (fun hc => ?_) hlength
      (ramSizeOf_eq_some.mpr ⟨hm, rfl⟩)
    exact BitVec.eq_of_toNat_eq (hdirect (selectController_eq_direct (hc ▸ hsel)))
  case short => rw [load, if_neg (not_not.mpr hb), if_pos hc]
  case geometry =>
    obtain ⟨-, controller, romBanks, ramSize, hsel, hrom, -, -, hram, rfl⟩ := load_cases h
    have hcontroller {c : Controller} (hc : selectController (cart.getD 0x147 0) = some c) : controller = c :=
      Option.some.inj (hsel.symm.trans hc)
    exact ⟨fun hd => hcontroller (selectController_direct hd), fun h1 => (selectController_mbc1 h1).imp fun r => hcontroller,
      fun h3 => (selectController_mbc3 h3).imp fun r => hcontroller, (romBanksOf_eq_some.mp hrom).2,
      (ramSizeOf_eq_some.mp hram).2, rfl⟩

end Sys2Proof.Machine
end

section
/-! PROOF. The decoder and the encoder are inverse to each other (R120 to R134). -/

namespace Sys2Proof

open Sys2Proof.Machine

/-! ### The opcode byte of given fields (R122) -/

/-- The opcode byte with the fields `x`, `y` and `z`. -/
def opcodeOf (x : Fin 4) (y z : Fin 8) : Byte := BitVec.ofNat 8 (64 * x.val + 8 * y.val + z.val)

theorem opcodeOf_toNat (x : Fin 4) (y z : Fin 8) : (opcodeOf x y z).toNat = 64 * x.val + 8 * y.val + z.val := by
  rw [opcodeOf, BitVec.toNat_ofNat]
  omega

@[simp] theorem fieldX_opcodeOf (x : Fin 4) (y z : Fin 8) : fieldX (opcodeOf x y z) = x := by
  have := opcodeOf_toNat x y z
  simp only [fieldX, Fin.ext_iff]
  omega

@[simp] theorem fieldY_opcodeOf (x : Fin 4) (y z : Fin 8) : fieldY (opcodeOf x y z) = y := by
  have := opcodeOf_toNat x y z
  simp only [fieldY, Fin.ext_iff]
  omega

@[simp] theorem fieldZ_opcodeOf (x : Fin 4) (y z : Fin 8) : fieldZ (opcodeOf x y z) = z := by
  have := opcodeOf_toNat x y z
  simp only [fieldZ, Fin.ext_iff]
  omega

/-- A byte is made of its fields. -/
theorem opcodeOf_fields (op : Byte) : opcodeOf (fieldX op) (fieldY op) (fieldZ op) = op := by
  apply BitVec.eq_of_toNat_eq
  simp only [opcodeOf_toNat, fieldX, fieldY, fieldZ]
  omega

/-! ### What is decoded encodes to its bytes -/

theorem encode_decodeCb (op2 : Byte) : encode (decodeCb op2) = [0xCB, op2] := by
  rw [← opcodeOf_fields op2]
  generalize fieldX op2 = x, fieldY op2 = y, fieldZ op2 = z
  revert x y z
  decide

/-- The bytes of the instruction with the opcode `op`, when `b1` and `b2` come after it (R120). -/
def instrBytes (op b1 b2 : Byte) : List Byte := [op, b1, b2].take (instrLength op)

/-- Two operand bytes are those of a 16-bit value (R123). -/
theorem exists_word (lo hi : Byte) : ∃ nn, lo = loByte nn ∧ hi = hiByte nn :=
  ⟨mkWord hi lo, (loByte_mkWord hi lo).symm, (hiByte_mkWord hi lo).symm⟩

theorem encode_decodeX0 (y z : Fin 8) (b1 b2 : Byte) : encode (decodeX0 y z b1 b2) = instrBytes (opcodeOf 0 y z) b1 b2 := by
  obtain ⟨nn, rfl, rfl⟩ := exists_word b1 b2
  unfold decodeX0
  rw [mkWord_hiByte_loByte]
  fin_cases y <;> fin_cases z <;> rfl

theorem encode_decodeX1 (y z : Fin 8) (b1 b2 : Byte) : encode (decodeX1 y z) = instrBytes (opcodeOf 1 y z) b1 b2 := by
  fin_cases y <;> fin_cases z <;> rfl

theorem encode_decodeX2 (y z : Fin 8) (b1 b2 : Byte) : encode (decodeX2 y z) = instrBytes (opcodeOf 2 y z) b1 b2 := by
  fin_cases y <;> fin_cases z <;> rfl

/-- Each opcode of the last quarter by its own row of the map, 0xCB by the CB opcode after it (R131). -/
theorem encode_decodeX3 (y z : Fin 8) (b1 b2 : Byte) : encode (decodeX3 y z b1 b2) = instrBytes (opcodeOf 3 y z) b1 b2 := by
  obtain ⟨nn, rfl, rfl⟩ := exists_word b1 b2
  unfold decodeX3
  rw [mkWord_hiByte_loByte]
  fin_cases y <;> fin_cases z <;> try rfl
  exact encode_decodeCb (loByte nn)

theorem encode_decodeAt (op b1 b2 : Byte) : encode (decodeAt op b1 b2) = instrBytes op b1 b2 := by
  rw [← opcodeOf_fields op, decodeAt]
  generalize fieldX op = x, fieldY op = y, fieldZ op = z
  simp only [fieldX_opcodeOf, fieldY_opcodeOf, fieldZ_opcodeOf]
  match x with
  | 0 => exact encode_decodeX0 y z b1 b2
  | 1 => exact encode_decodeX1 y z b1 b2
  | 2 => exact encode_decodeX2 y z b1 b2
  | 3 => exact encode_decodeX3 y z b1 b2

theorem instrBytes_eq_cons (op b1 b2 : Byte) : instrBytes op b1 b2 = op :: [b1, b2].take (instrLength op - 1) := by
  obtain h | h | h := instrLength_cases op <;> rw [instrBytes, h] <;> rfl

/-- When enough bytes follow the opcode, its instruction takes the first of them. -/
theorem instrBytes_append_drop {op : Byte} {rest : List Byte} (h : instrLength op - 1 ≤ rest.length) :
    instrBytes op (rest.getD 0 0) (rest.getD 1 0) ++ rest.drop (instrLength op - 1) = op :: rest := by
  rw [instrBytes_eq_cons, List.cons_append]
  congr 1
  obtain hn | hn | hn := instrLength_cases op <;> rw [hn] at h ⊢
  · rfl
  · match rest, h with
    | b1 :: _, _ => rfl
  · match rest, h with
    | b1 :: b2 :: _, _ => rfl

/-- What a decoding that succeeds has read: an opcode and at least the operand bytes it asks for. -/
theorem decode_eq_ok {bytes rest : List Byte} {i : Instr} (h : decode bytes = .ok (i, rest)) :
    ∃ op tail, bytes = op :: tail ∧ instrLength op - 1 ≤ tail.length ∧ i = decodeAt op (tail.getD 0 0) (tail.getD 1 0) ∧
      rest = tail.drop (instrLength op - 1) := by
  unfold decode at h
  split at h
  · cases h
  · split at h
    · cases h
    · cases h
      exact ⟨_, _, rfl, by omega, rfl, rfl⟩

theorem decode_cons {op : Byte} {tail : List Byte} (h : instrLength op - 1 ≤ tail.length) :
    decode (op :: tail) = .ok (decodeAt op (tail.getD 0 0) (tail.getD 1 0), tail.drop (instrLength op - 1)) :=
  if_neg (by omega)

/-- Settles O2: by the encoding of what an opcode and its operands decode to; no opcode asks for more than two operand bytes. -/
theorem encodeDecode : Obligations.EncodeDecode := by
  refine ⟨fun bytes i rest h => ?_, fun op b1 b2 rest => ⟨_, decode_cons ?_⟩⟩
  · obtain ⟨op, tail, rfl, hlength, rfl, rfl⟩ := decode_eq_ok h
    exact ⟨decodeAt_wellFormed _ _ _, by rw [encode_decodeAt, instrBytes_append_drop hlength]⟩
  · have := instrLength_cases op
    simp only [List.length_cons]
    omega

/-! ### An instruction is decoded from its bytes -/

theorem encode_ne_nil (i : Instr) : encode i ≠ [] := by
  cases i <;> exact List.cons_ne_nil _ _

/-- The decoder reads every instruction back from the bytes of its encoding (R130, R131). -/
theorem decodeAt_of_encode {i : Instr} (hi : i.wellFormed = true) {op : Byte} {tail : List Byte} (h : encode i = op :: tail) :
    decodeAt op (tail.getD 0 0) (tail.getD 1 0) = i := by
  cases i
  case prefixCb => cases hi
  case ldBcNn nn | ldAtNnSp nn | ldDeNn nn | ldHlNn nn | ldSpNn nn | jpNzNn nn | jpNn nn | callNzNn nn | jpZNn nn | callZNn nn |
    callNn nn | jpNcNn nn | callNcNn nn | jpCNn nn | callCNn nn | ldAtNnA nn | ldAAtNn nn =>
    cases h
    exact congrArg _ (mkWord_hiByte_loByte nn)
  all_goals
    cases h
    rfl

/-- No two instructions have the same encoding. -/
theorem encode_injective {i j : Instr} (hi : i.wellFormed = true) (hj : j.wellFormed = true) (h : encode i = encode j) : i = j := by
  obtain ⟨op, tail, hop⟩ := List.exists_cons_of_ne_nil (encode_ne_nil j)
  rw [← decodeAt_of_encode hi (h.trans hop), decodeAt_of_encode hj hop]

/-- An encoding is an opcode and the operand bytes it asks for (R120, R121). -/
theorem encode_eq_cons {i : Instr} (hi : i.wellFormed = true) :
    ∃ op operands, encode i = op :: operands ∧ operands.length = instrLength op - 1 := by
  obtain ⟨op, tail, hop⟩ := List.exists_cons_of_ne_nil (encode_ne_nil i)
  refine ⟨op, _, (decodeAt_of_encode hi hop ▸ encode_decodeAt _ _ _).trans (instrBytes_eq_cons _ _ _), ?_⟩
  obtain h | h | h := instrLength_cases op <;> rw [h] <;> rfl

/-- Settles O1: the bytes decode to an instruction that leaves `rest`; it has the encoding of `i` by O2, and so is `i`. -/
theorem decodeEncode : Obligations.DecodeEncode := by
  intro i rest hi
  obtain ⟨j, hdecode⟩ : ∃ j, decode (encode i ++ rest) = .ok (j, rest) := by
    obtain ⟨op, operands, hencode, hlength⟩ := encode_eq_cons hi
    rw [hencode, List.cons_append, decode_cons (by simp [hlength]), List.drop_left' hlength]
    exact ⟨_, rfl⟩
  obtain ⟨hj, hbytes⟩ := encodeDecode.1 _ j rest hdecode
  rw [hdecode, encode_injective hj hi (List.append_cancel_right hbytes)]

/-- Settles O3: each word is the encoding of the instruction that the map names there. -/
theorem specWords : Obligations.SpecWords :=
  ⟨decodeEncode .ldCB [] rfl, decodeEncode (.ldSpNn 0xFFFE) [] rfl, decodeEncode .addAD [] rfl, decodeEncode (.sbcAN 0x3A) [] rfl,
    decodeEncode .addHlSp [] rfl, decodeEncode .swapA [] rfl, decodeEncode .bit7AtHl [] rfl,
    decodeEncode (.callCNn 0x4000) [] rfl, decodeEncode .ei [] rfl, decodeEncode .illegalDD [] rfl⟩

end Sys2Proof
end

section
/-! PROOF. The Fatal instructions (R132, R332, R336) and the CB opcodes (R129, R335). -/

namespace Sys2Proof.Machine

/-! ### STOP and the unassigned opcodes -/

theorem head_encode_decodeAt (op b1 b2 : Byte) : (encode (decodeAt op b1 b2)).head? = some op := by
  rw [encode_decodeAt, instrBytes_eq_cons]
  rfl

/-- The opcodes of the instructions that raise Fatal. -/
theorem fatalInstrs_opcodes :
    fatalInstrs.map (fun i => (encode i).head?) =
      [0x10, 0xD3, 0xDB, 0xDD, 0xE3, 0xE4, 0xEB, 0xEC, 0xED, 0xF4, 0xFC, 0xFD].map some := rfl

/-- Settles O29: each of the twelve is `State.raiseFatal`; an instruction that changes `fatal` is one of them (`exec_cpuFrame`), and
the opcode it was decoded from starts its encoding. -/
theorem fatalInstructions : Obligations.FatalInstructions := by
  refine ⟨fun s => ⟨rfl, rfl⟩, fun s row hrow => ?unassigned, fun s op b1 b2 hop => ?others⟩
  case unassigned => fin_cases hrow <;> exact ⟨rfl, rfl⟩
  case others =>
    obtain ⟨t, ht, hframe⟩ := exec_cpuFrame (decodeAt op b1 b2) s
    refine ⟨t, ht, hframe.fatal.resolve_right fun hfatal => hop ?_⟩
    have hmem := List.mem_map_of_mem (f := fun i => (encode i).head?) hfatal
    rw [head_encode_decodeAt, fatalInstrs_opcodes] at hmem
    exact (List.mem_map_of_injective (Option.some_injective Byte)).mp hmem

/-! ### The CB instructions by their selectors -/

theorem exec_rot (op : RotOp) (o : Operand8) (s : State) : exec (.rot op o) s = .next (s.rotateOperand op o) := by
  cases o with
  | reg r => cases op <;> cases r <;> rfl
  | atHl => cases op <;> rfl

theorem exec_bit (b : Fin 8) (o : Operand8) (s : State) : exec (.bit b o) s = .next (s.testBit b o) := by
  cases o with
  | reg r => cases r <;> fin_cases b <;> rfl
  | atHl => fin_cases b <;> rfl

theorem exec_res (b : Fin 8) (o : Operand8) (s : State) : exec (.res b o) s = .next (s.resetBit b o) := by
  cases o with
  | reg r => cases r <;> fin_cases b <;> rfl
  | atHl => fin_cases b <;> rfl

theorem exec_set (b : Fin 8) (o : Operand8) (s : State) : exec (.set b o) s = .next (s.assignBit b o) := by
  cases o with
  | reg r => cases r <;> fin_cases b <;> rfl
  | atHl => fin_cases b <;> rfl

/-- The instruction that a CB opcode decodes to is the one that the table's row of 0xCB runs (R335). -/
theorem exec_decodeCb (op2 : Byte) (s : State) : exec (decodeCb op2) s = .next (s.runCb op2) := by
  unfold decodeCb State.runCb
  generalize fieldX op2 = x
  match x with
  | 0 => exact exec_rot _ _ s
  | 1 => exact exec_bit _ _ s
  | 2 => exact exec_res _ _ s
  | 3 => exact exec_set _ _ s

/-! ### PC after a CB instruction -/

@[simp] theorem State.readOperand_regs (s : State) (o : Operand8) : (s.readOperand o).2.regs = s.regs := by
  cases o with
  | reg r => rfl
  | atHl => exact s.afterRead_regs s.hl

@[simp] theorem State.writeOperand_pc (s : State) (o : Operand8) (v : Byte) : (s.writeOperand o v).regs.pc = s.regs.pc := by
  cases o with
  | reg r => exact s.setReg8_pc r v
  | atHl => exact congrArg Regs.pc (s.writeByte_regs s.hl v)

theorem State.runCb_pc (s : State) (op2 : Byte) : (s.runCb op2).regs.pc = s.regs.pc + 2 := by
  unfold State.runCb
  split
  · simp [State.rotateOperand]
  · simp [State.testBit]
  · simp [State.resetBit]
  · simp [State.assignBit]

/-! ### The selectors as tables -/

theorem reg8Sel_eq (z : Fin 8) :
    reg8Sel z = [.reg .b, .reg .c, .reg .d, .reg .e, .reg .h, .reg .l, .atHl, .reg .a][z.val] := by
  fin_cases z <;> rfl

theorem rotSel_eq (y : Fin 8) : rotSel y = [.rlc, .rrc, .rl, .rr, .sla, .sra, .swap, .srl][y.val] := by
  fin_cases y <;> rfl

theorem decode_cb (op2 : Byte) : decode [0xCB, op2] = .ok (decodeCb op2, []) := rfl

/-- Settles O30: `decodeCb` selects by the fields as R129 does, and `State.runCb` runs what it selects. -/
theorem cbPrefix : Obligations.CbPrefix := by
  intro s x y z op2 o i
  have hdecode : decodeCb op2 = i := by
    simp only [decodeCb, show op2 = opcodeOf x y z from rfl, fieldX_opcodeOf, fieldY_opcodeOf, fieldZ_opcodeOf, reg8Sel_eq, rotSel_eq]
    rfl
  rw [← hdecode]
  exact ⟨decode_cb op2, rfl, (exec_decodeCb op2 s).symm, _, rfl, s.runCb_pc op2⟩

end Sys2Proof.Machine
end

section
/-! PROOF. The loads, the stores and the stack instructions (R151 to R175), and ADD SP,e (R243). -/

namespace Sys2Proof.Machine

/-! ### The ends of the shared operations (R150) -/

/-- An effect that leaves PC alone ends with PC = pc0 + length. -/
theorem State.retire_eq_endAt {s t : State} (h : t.regs.pc = s.regs.pc) (length : Word) (cycles : Nat) :
    t.retire length cycles = t.endAt (s.regs.pc + length) cycles := by
  rw [← h]
  rfl

theorem State.moveReg8_eq (s : State) (dst src : Reg8) :
    s.moveReg8 dst src = (s.setReg8 dst (s.reg8 src)).endAt (s.regs.pc + 1) 4 :=
  State.retire_eq_endAt (s.setReg8_pc dst _) 1 4

theorem State.load8_eq (s : State) (dst : Reg8) (a length : Word) (cycles : Nat) :
    s.load8 dst a length cycles = ((s.afterRead a).setReg8 dst (s.readByte a)).endAt (s.regs.pc + length) cycles :=
  State.retire_eq_endAt (by simp) length cycles

theorem State.store8_eq (s : State) (a : Word) (v : Byte) (length : Word) (cycles : Nat) :
    s.store8 a v length cycles = (s.writeByte a v).endAt (s.regs.pc + length) cycles :=
  State.retire_eq_endAt (by simp) length cycles

theorem State.storeWord_eq (s : State) (a v length : Word) (cycles : Nat) :
    s.storeWord a v length cycles =
      ((s.writeByte a (loByte v)).writeByte (a + 1) (hiByte v)).endAt (s.regs.pc + length) cycles :=
  State.retire_eq_endAt (by simp) length cycles

theorem State.push16_retire (s : State) (v length : Word) (cycles : Nat) :
    (s.push16 v).retire length cycles =
      (((s.writeByte (s.regs.sp - 1) (hiByte v)).writeByte (s.regs.sp - 2) (loByte v)).setSp (s.regs.sp - 2)).endAt
        (s.regs.pc + length) cycles :=
  State.retire_eq_endAt (by simp) length cycles

/-- SP is in no pair of R126, so a POP may move it first. -/
theorem State.setStackReg_setSp (s : State) (r : StackReg) (sp v : Word) :
    (s.setSp sp).setStackReg r v = (s.setStackReg r v).setSp sp := by
  cases r <;> rfl

theorem State.popReg_eq (s : State) (r : StackReg) :
    s.popReg r =
      ((((s.afterRead s.regs.sp).afterRead (s.regs.sp + 1)).setStackReg r
        (mkWord ((s.afterRead s.regs.sp).readByte (s.regs.sp + 1)) (s.readByte s.regs.sp))).setSp
        (s.regs.sp + 2)).endAt (s.regs.pc + 1) 12 := by
  rw [← State.setStackReg_setSp]
  exact State.retire_eq_endAt (by simp) 1 12

/-! ### The instructions by their selectors -/

theorem exec_ldRegReg (dst src : Reg8) (s : State) : exec (.ldRegReg dst src) s = .next (s.moveReg8 dst src) := by
  cases dst <;> cases src <;> rfl

theorem exec_ldRegN (dst : Reg8) (n : Byte) (s : State) : exec (.ldRegN dst n) s = .next ((s.setReg8 dst n).retire 2 8) := by
  cases dst <;> rfl

theorem exec_ldReg16Nn (r : Reg16) (nn : Word) (s : State) :
    exec (.ldReg16Nn r nn) s = .next ((s.setReg16 r nn).retire 3 12) := by
  cases r <;> rfl

theorem exec_ldRegAtHl (dst : Reg8) (s : State) : exec (.ldRegAtHl dst) s = .next (s.load8 dst s.hl 1 8) := by
  cases dst <;> rfl

theorem exec_ldAtHlReg (r : Reg8) (s : State) : exec (.ldAtHlReg r) s = .next (s.store8 s.hl (s.reg8 r) 1 8) := by
  cases r <;> rfl

theorem exec_push (r : StackReg) (s : State) : exec (.push r) s = .next ((s.push16 (s.stackReg r)).retire 1 16) := by
  cases r <;> rfl

theorem exec_pop (r : StackReg) (s : State) : exec (.pop r) s = .next (s.popReg r) := by
  cases r <;> rfl

theorem encode_ldRegReg (dst src : Reg8) : encode (.ldRegReg dst src) = [0x40 + 8 * dst.code + src.code] := by
  cases dst <;> cases src <;> rfl

theorem encode_ldRegN (dst : Reg8) (n : Byte) : encode (.ldRegN dst n) = [0x06 + 8 * dst.code, n] := by
  cases dst <;> rfl

theorem encode_ldReg16Nn (r : Reg16) (nn : Word) :
    encode (.ldReg16Nn r nn) = [0x01 + 16 * r.code, loByte nn, hiByte nn] := by
  cases r <;> rfl

theorem encode_ldRegAtHl (dst : Reg8) : encode (.ldRegAtHl dst) = [0x46 + 8 * dst.code] := by
  cases dst <;> rfl

theorem encode_ldAtHlReg (r : Reg8) : encode (.ldAtHlReg r) = [0x70 + r.code] := by
  cases r <;> rfl

theorem encode_push (r : StackReg) : encode (.push r) = [0xC5 + 16 * r.code] := by
  cases r <;> rfl

theorem encode_pop (r : StackReg) : encode (.pop r) = [0xC1 + 16 * r.code] := by
  cases r <;> rfl

/-! ### Registers -/

/-- Settles O5: both forms are a register write, which leaves PC to the end of the instruction. -/
theorem loadRegister : Obligations.LoadRegister := by
  refine ⟨fun s dst r => ⟨encode_ldRegReg dst r, ?_⟩, fun s dst n => ⟨encode_ldRegN dst n, ?_⟩⟩
  · rw [exec_ldRegReg, State.moveReg8_eq]
  · rw [exec_ldRegN, State.retire_eq_endAt (s.setReg8_pc dst n)]

/-- Settles O6: both forms are a write of a 16-bit register, which leaves PC to the end of the instruction. -/
theorem loadPair : Obligations.LoadPair := by
  refine ⟨fun s r nn => ⟨encode_ldReg16Nn r nn, ?_⟩, fun s => ⟨rfl, rfl⟩⟩
  rw [exec_ldReg16Nn, State.retire_eq_endAt (s.setReg16_pc r nn)]

/-! ### Memory -/

/-- Settles O7: each is `State.load8` at its address, and `setReg8 .a` is `setA`; HL moves after it, which neither PC nor the cost sees. -/
theorem loadMemory : Obligations.LoadMemory := by
  intro s
  refine ⟨fun dst => ⟨encode_ldRegAtHl dst, ?_⟩, ⟨rfl, ?_⟩, ⟨rfl, ?_⟩, fun nn => ⟨rfl, ?_⟩, ⟨rfl, ?_⟩, ⟨rfl, ?_⟩,
    fun n => ⟨rfl, ?_⟩, ⟨rfl, ?_⟩⟩
  · rw [exec_ldRegAtHl, State.load8_eq]
  · exact congrArg Host.Outcome.next (s.load8_eq .a s.bc 1 8)
  · exact congrArg Host.Outcome.next (s.load8_eq .a s.de 1 8)
  · exact congrArg Host.Outcome.next (s.load8_eq .a nn 3 16)
  · exact congrArg (fun t : State => Host.Outcome.next (t.setHl (s.hl + 1))) (s.load8_eq .a s.hl 1 8)
  · exact congrArg (fun t : State => Host.Outcome.next (t.setHl (s.hl - 1))) (s.load8_eq .a s.hl 1 8)
  · exact congrArg Host.Outcome.next (s.load8_eq .a (highPage n) 2 12)
  · exact congrArg Host.Outcome.next (s.load8_eq .a (highPage s.regs.c) 1 8)

/-- Settles O8: each is `State.store8` at its address; HL moves after it, which neither PC nor the cost sees. -/
theorem storeMemory : Obligations.StoreMemory := by
  intro s
  refine ⟨fun r => ⟨encode_ldAtHlReg r, ?_⟩, fun n => ⟨rfl, ?_⟩, ⟨rfl, ?_⟩, ⟨rfl, ?_⟩, fun nn => ⟨rfl, ?_⟩, ⟨rfl, ?_⟩,
    ⟨rfl, ?_⟩, fun n => ⟨rfl, ?_⟩, ⟨rfl, ?_⟩⟩
  · rw [exec_ldAtHlReg, State.store8_eq]
  · exact congrArg Host.Outcome.next (s.store8_eq s.hl n 2 12)
  · exact congrArg Host.Outcome.next (s.store8_eq s.bc s.regs.a 1 8)
  · exact congrArg Host.Outcome.next (s.store8_eq s.de s.regs.a 1 8)
  · exact congrArg Host.Outcome.next (s.store8_eq nn s.regs.a 3 16)
  · exact congrArg (fun t : State => Host.Outcome.next (t.setHl (s.hl + 1))) (s.store8_eq s.hl s.regs.a 1 8)
  · exact congrArg (fun t : State => Host.Outcome.next (t.setHl (s.hl - 1))) (s.store8_eq s.hl s.regs.a 1 8)
  · exact congrArg Host.Outcome.next (s.store8_eq (highPage n) s.regs.a 2 12)
  · exact congrArg Host.Outcome.next (s.store8_eq (highPage s.regs.c) s.regs.a 1 8)

/-! ### The stack and SP -/

theorem loByte_eq_setWidth (v : Word) : loByte v = v.setWidth 8 :=
  (BitVec.setWidth_eq_extractLsb' (by decide)).symm

theorem hiByte_eq_setWidth_shift (v : Word) : hiByte v = (v >>> 8).setWidth 8 := by
  refine BitVec.eq_of_toNat_eq ?_
  rw [hiByte, BitVec.extractLsb'_toNat, BitVec.toNat_setWidth, BitVec.toNat_ushiftRight]

/-- Settles O9: it is `State.storeWord`, whose two bytes are SP[7:0] and SP[15:8]. -/
theorem storeSp : Obligations.StoreSp := by
  refine fun s nn => ⟨rfl, ?_⟩
  rw [← loByte_eq_setWidth, ← hiByte_eq_setWidth_shift]
  exact congrArg Host.Outcome.next (s.storeWord_eq nn s.regs.sp 3 20)

/-- A byte written to F leaves the flags of its bits 7 to 4 (R22), here of the low byte of a popped word (R174). -/
theorem Flags.ofByte_loByte (v : Word) : Flags.ofByte (loByte v) = { z := v[7], n := v[6], h := v[5], c := v[4] } := by
  simp [Flags.ofByte, loByte]

/-- Settles O10: the stores and the reads of `State.push16` and `State.pop16`, in their order. -/
theorem pushPop : Obligations.PushPop := by
  refine ⟨fun s r => ⟨encode_push r, ?_⟩, fun s r => ⟨encode_pop r, ?_⟩,
    fun s v => ⟨rfl, rfl, rfl, rfl, rfl, rfl, rfl, rfl, Flags.ofByte_loByte v⟩⟩
  · rw [exec_push, State.push16_retire]
  · rw [exec_pop, State.popReg_eq]

/-- The sum and the flags of R175 and R243, over the integers and the masked operands. -/
theorem addOffset_eq (sp : Word) (e : Byte) :
    addOffset sp e =
      (BitVec.ofInt 16 (sp.toNat + e.toInt),
        { z := false, n := false
          h := decide ((sp &&& 0x000F).toNat + (e &&& 0x0F).toNat > 0x0F)
          c := decide ((sp &&& 0x00FF).toNat + e.toNat > 0xFF) }) := by
  rw [addOffset, add_sext16, toNat_lowNibble16, toNat_lowNibble, toNat_lowByte16]

theorem exec_ldHlSpE (e : Byte) (s : State) :
    exec (.ldHlSpE e) s = .next (((s.setHl (addOffset s.regs.sp e).1).setF (addOffset s.regs.sp e).2).retire 2 12) := rfl

theorem exec_addSpE (e : Byte) (s : State) :
    exec (.addSpE e) s = .next (((s.setSp (addOffset s.regs.sp e).1).setF (addOffset s.regs.sp e).2).retire 2 16) := rfl

/-- Settles O11: both forms take the sum and the flags from `addOffset`. -/
theorem spOffset : Obligations.SpOffset := by
  refine fun s e => ⟨⟨rfl, ?_⟩, rfl, ?_⟩
  · rw [exec_ldHlSpE, addOffset_eq]
    rfl
  · rw [exec_addSpE, addOffset_eq]
    rfl

end Sys2Proof.Machine
end

section
/-! PROOF. The 8-bit arithmetic and logic (R201 to R217), and decimal arithmetic by DAA. -/

namespace Sys2Proof.Machine

/-! ### The instructions by their selectors -/

theorem exec_aluReg (op : AluOp) (r : Reg8) (s : State) :
    exec (.aluReg op r) s = .next ((s.aluWith op (s.reg8 r)).retire 1 4) := by
  cases op <;> cases r <;> rfl

theorem exec_aluAtHl (op : AluOp) (s : State) : exec (.aluAtHl op) s = .next (s.aluAtHl op) := by
  cases op <;> rfl

theorem exec_aluN (op : AluOp) (n : Byte) (s : State) : exec (.aluN op n) s = .next ((s.aluWith op n).retire 2 8) := by
  cases op <;> rfl

theorem exec_incReg (r : Reg8) (s : State) : exec (.incReg r) s = .next (s.incOperand (.reg r)) := by
  cases r <;> rfl

theorem exec_decReg (r : Reg8) (s : State) : exec (.decReg r) s = .next (s.decOperand (.reg r)) := by
  cases r <;> rfl

theorem exec_incAtHl (s : State) : exec .incAtHl s = .next (s.incOperand .atHl) := rfl

theorem exec_decAtHl (s : State) : exec .decAtHl s = .next (s.decOperand .atHl) := rfl

theorem encode_aluReg (op : AluOp) (r : Reg8) : encode (.aluReg op r) = [0x80 + 8 * op.code + r.code] := by
  cases op <;> cases r <;> rfl

theorem encode_aluAtHl (op : AluOp) : encode (.aluAtHl op) = [0x86 + 8 * op.code] := by
  cases op <;> rfl

theorem encode_aluN (op : AluOp) (n : Byte) : encode (.aluN op n) = [0xC6 + 8 * op.code, n] := by
  cases op <;> rfl

theorem encode_incReg (r : Reg8) : encode (.incReg r) = [0x04 + 8 * r.code] := by
  cases r <;> rfl

theorem encode_decReg (r : Reg8) : encode (.decReg r) = [0x05 + 8 * r.code] := by
  cases r <;> rfl

/-! ### A two-operand instruction on any source (R201) -/

@[simp] theorem State.afterSource_regs (s : State) (src : AluSource) : (s.afterSource src).regs = s.regs := by
  cases src with
  | reg r => rfl
  | atHl => exact s.afterRead_regs s.hl
  | imm n => rfl

theorem encode_aluSource (op : AluOp) (src : AluSource) : encode (src.instr op) = src.bytes op := by
  cases src with
  | reg r => exact encode_aluReg op r
  | atHl => exact encode_aluAtHl op
  | imm n => exact encode_aluN op n

theorem exec_aluSource_retire (op : AluOp) (src : AluSource) (s : State) :
    exec (src.instr op) s = .next (((s.afterSource src).aluWith op (s.sourceValue src)).retire src.length src.cycles) := by
  cases src with
  | reg r => exact exec_aluReg op r s
  | atHl => exact exec_aluAtHl op s
  | imm n => exact exec_aluN op n s

/-- Reading the source leaves A, F and PC alone, so all three forms take A and F from `alu` on the registers before it. -/
theorem exec_aluSource (op : AluOp) (src : AluSource) (s : State) {r : Byte} {f : Flags}
    (h : alu op s.regs.a (s.sourceValue src) s.regs.f = (r, f)) :
    exec (src.instr op) s = .next ((((s.afterSource src).setA r).setF f).endAt (s.regs.pc + src.length) src.cycles) := by
  rw [exec_aluSource_retire, State.aluWith, State.afterSource_regs, h]
  exact congrArg Host.Outcome.next (State.retire_eq_endAt (by simp) src.length src.cycles)

/-! ### What the unit answers (R202 to R209) -/

theorem alu_adc (a b : Byte) (f : Flags) :
    alu .adc a b f =
      (a + b + (if f.c then 1 else 0),
        { z := decide (a + b + (if f.c then 1 else 0) = 0), n := false
          h := decide ((a &&& 0x0F).toNat + (b &&& 0x0F).toNat + f.c.toNat > 0x0F)
          c := decide (a.toNat + b.toNat + f.c.toNat > 0xFF) }) := by
  simp only [alu, AdderResult.flags, add8_eq, isZero_eq]

theorem alu_sbc (a b : Byte) (f : Flags) :
    alu .sbc a b f =
      (a - b - (if f.c then 1 else 0),
        { z := decide (a - b - (if f.c then 1 else 0) = 0), n := true
          h := decide ((a &&& 0x0F).toNat < (b &&& 0x0F).toNat + f.c.toNat)
          c := decide (a.toNat < b.toNat + f.c.toNat) }) := by
  simp only [alu, AdderResult.flags, sub8_eq, isZero_eq]

/-- ADD is ADC without a carry. -/
theorem alu_add (a b : Byte) (f : Flags) :
    alu .add a b f =
      (a + b,
        { z := decide (a + b = 0), n := false
          h := decide ((a &&& 0x0F).toNat + (b &&& 0x0F).toNat > 0x0F)
          c := decide (a.toNat + b.toNat > 0xFF) }) := by
  calc alu .add a b f = alu .adc a b { f with c := false } := rfl
    _ = _ := by simp [alu_adc]

/-- SUB is SBC without a borrow. -/
theorem alu_sub (a b : Byte) (f : Flags) :
    alu .sub a b f =
      (a - b,
        { z := decide (a - b = 0), n := true
          h := decide ((a &&& 0x0F).toNat < (b &&& 0x0F).toNat), c := decide (a.toNat < b.toNat) }) := by
  calc alu .sub a b f = alu .sbc a b { f with c := false } := rfl
    _ = _ := by simp [alu_sbc]

/-- CP sets the flags of SUB and leaves A. -/
theorem alu_cp (a b : Byte) (f : Flags) : alu .cp a b f = (a, (alu .sub a b f).2) := rfl

theorem alu_and (a b : Byte) (f : Flags) :
    alu .and a b f = (a &&& b, { z := decide (a &&& b = 0), n := false, h := true, c := false }) := by
  rw [alu, isZero_eq]

theorem alu_xor (a b : Byte) (f : Flags) :
    alu .xor a b f = (a ^^^ b, { z := decide (a ^^^ b = 0), n := false, h := false, c := false }) := by
  rw [alu, isZero_eq]

theorem alu_or (a b : Byte) (f : Flags) :
    alu .or a b f = (a ||| b, { z := decide (a ||| b = 0), n := false, h := false, c := false }) := by
  rw [alu, isZero_eq]

/-- Settles O12: the three forms by `exec_aluSource`, the sums and carries by what the adder answers. -/
theorem addAdc : Obligations.AddAdc :=
  ⟨fun s src => ⟨encode_aluSource .add src, exec_aluSource .add src s (alu_add _ _ _)⟩,
    fun s src => ⟨encode_aluSource .adc src, exec_aluSource .adc src s (alu_adc _ _ _)⟩⟩

/-- Settles O13: as for the additions; CP writes A back as it was. -/
theorem subSbcCp : Obligations.SubSbcCp := by
  refine fun s src => ⟨⟨encode_aluSource .sub src, exec_aluSource .sub src s (alu_sub _ _ _)⟩,
    ⟨encode_aluSource .cp src, ?_⟩, ⟨encode_aluSource .sbc src, exec_aluSource .sbc src s (alu_sbc _ _ _)⟩⟩
  have hA : (s.afterSource src).setA s.regs.a = s.afterSource src := by
    rw [← s.afterSource_regs src]
    rfl
  rw [exec_aluSource .cp src s (alu_cp _ _ _), alu_sub, hA]

/-- Settles O14: the three forms by `exec_aluSource`. -/
theorem logic : Obligations.Logic := fun s src =>
  ⟨⟨encode_aluSource .and src, exec_aluSource .and src s (alu_and _ _ _)⟩,
    ⟨encode_aluSource .xor src, exec_aluSource .xor src s (alu_xor _ _ _)⟩,
    ⟨encode_aluSource .or src, exec_aluSource .or src s (alu_or _ _ _)⟩⟩

/-! ### INC and DEC (R210 to R213) -/

/-- A low nibble as a number. -/
theorem lowNibble_eq_iff (v k : Byte) : v &&& 0x0F = k ↔ v.toNat % 16 = k.toNat := by
  rw [← BitVec.toNat_inj, toNat_lowNibble]

theorem inc8_eq (v : Byte) (f : Flags) :
    inc8 v f = (v + 1, { z := decide (v + 1 = 0), n := false, h := decide (v &&& 0x0F = 0x0F), c := f.c }) := by
  simp only [inc8, isZero_eq, lowNibble_eq_iff]
  rfl

theorem dec8_eq (v : Byte) (f : Flags) :
    dec8 v f = (v - 1, { z := decide (v - 1 = 0), n := true, h := decide (v &&& 0x0F = 0x00), c := f.c }) := by
  simp only [dec8, isZero_eq, lowNibble_eq_iff]
  rfl

theorem State.incOperand_eq (s : State) (o : Operand8) :
    s.incOperand o =
      (((s.readOperand o).2.writeOperand o (inc8 (s.readOperand o).1 s.regs.f).1).setF
        (inc8 (s.readOperand o).1 s.regs.f).2).endAt (s.regs.pc + 1) (operandCost o 4 12) := by
  refine Eq.trans ?_ (State.retire_eq_endAt (by simp) 1 (operandCost o 4 12))
  rfl

theorem State.decOperand_eq (s : State) (o : Operand8) :
    s.decOperand o =
      (((s.readOperand o).2.writeOperand o (dec8 (s.readOperand o).1 s.regs.f).1).setF
        (dec8 (s.readOperand o).1 s.regs.f).2).endAt (s.regs.pc + 1) (operandCost o 4 12) := by
  refine Eq.trans ?_ (State.retire_eq_endAt (by simp) 1 (operandCost o 4 12))
  rfl

/-- The write of a read and modified (HL) is at the address of the read (R211, R213). -/
theorem State.writeOperand_readOperand_atHl (s : State) (v : Byte) :
    (s.readOperand .atHl).2.writeOperand .atHl v = (s.afterRead s.hl).writeByte s.hl v := by
  rw [State.writeOperand, State.hl, State.readOperand_regs]
  rfl

/-- Settles O15: both operand forms of INC and of DEC, by the operation they share. -/
theorem incDec8 : Obligations.IncDec8 := by
  refine fun s => ⟨fun r => ⟨encode_incReg r, ?_⟩, ⟨rfl, ?_⟩, fun r => ⟨encode_decReg r, ?_⟩, rfl, ?_⟩
  · rw [exec_incReg, State.incOperand_eq, inc8_eq]
    rfl
  · rw [exec_incAtHl, State.incOperand_eq, inc8_eq, State.writeOperand_readOperand_atHl]
    rfl
  · rw [exec_decReg, State.decOperand_eq, dec8_eq]
    rfl
  · rw [exec_decAtHl, State.decOperand_eq, dec8_eq, State.writeOperand_readOperand_atHl]
    rfl

/-! ### CPL, SCF and CCF (R215 to R217) -/

/-- Settles O18: each is a write of A or F as its rule says; the complement of A is A exclusive-or all ones. -/
theorem cplScfCcf : Obligations.CplScfCcf := by
  refine fun s => ⟨⟨rfl, ?_⟩, ⟨rfl, rfl⟩, ⟨rfl, rfl⟩⟩
  have hcpl : s.regs.a ^^^ 0xFF = ~~~s.regs.a := BitVec.xor_allOnes
  rw [hcpl]
  rfl

/-! ### DAA (R214) -/

/-- A after DAA's correction of its high digit (R214). -/
def daaHigh (a : Byte) (f : Flags) : Byte :=
  if f.n = false then (if f.c = true ∨ a.toNat > 0x99 then a + 0x60 else a) else (if f.c = true then a - 0x60 else a)

/-- A after both of DAA's corrections (R214). -/
def daaByte (a : Byte) (f : Flags) : Byte :=
  if f.n = false then (if f.h = true ∨ (daaHigh a f &&& 0x0F).toNat > 0x09 then daaHigh a f + 0x06 else daaHigh a f)
  else (if f.h = true then daaHigh a f - 0x06 else daaHigh a f)

theorem daaAdjust_eq (a : Byte) (f : Flags) :
    daaAdjust a f = (daaByte a f, f.c || (!f.n && decide (a.toNat > 0x99))) := by
  rw [daaAdjust, daaByte, daaHigh, toNat_lowNibble]
  by_cases hn : f.n = false
  · -- After an addition the high correction is also what sets C.
    rw [if_pos hn, if_pos hn, if_pos hn]
    by_cases hhigh : f.c = true ∨ a.toNat > 0x99
    · have hc : (f.c || (!f.n && decide (a.toNat > 0x99))) = true := by simpa [hn] using hhigh
      simp only [if_pos hhigh, hc]
      split <;> rfl
    · have hc : (f.c || (!f.n && decide (a.toNat > 0x99))) = f.c := by
        rw [decide_eq_false (not_or.mp hhigh).2, Bool.and_false, Bool.or_false]
      simp only [if_neg hhigh, hc]
      split <;> rfl
  · rw [if_neg hn, if_neg hn, if_neg hn, Bool.eq_true_of_not_eq_false hn, Bool.not_true, Bool.false_and, Bool.or_false]

theorem daa_eq (a : Byte) (f : Flags) :
    daa a f =
      (daaByte a f,
        { z := decide (daaByte a f = 0), n := f.n, h := false, c := f.c || (!f.n && decide (a.toNat > 0x99)) }) := by
  rw [daa, daaAdjust_eq, isZero_eq]

theorem exec_daa (s : State) :
    exec .daa s =
      .next (((s.setA (daa s.regs.a s.regs.f).1).setF (daa s.regs.a s.regs.f).2).endAt (s.regs.pc + 1) 4) := rfl

/-- Settles O16: DAA's two corrections are those of the table (`daaAdjust_eq`). -/
theorem daaCorrection : Obligations.DaaCorrection := by
  refine fun s => ⟨rfl, ?_⟩
  rw [exec_daa, daa_eq]
  rfl

/-! ### Decimal arithmetic -/

theorem bcd_toNat {n : Nat} (h : n < 100) : (bcd n).toNat = n / 10 * 16 + n % 10 := by
  rw [bcd, BitVec.toNat_ofNat, Nat.mod_eq_of_lt (show n / 10 < 10 by omega)]
  omega

theorem bcd_toNat_mod (n : Nat) : (bcd n).toNat % 16 = n % 10 := by
  rw [bcd, BitVec.toNat_ofNat]
  omega

/-- After an addition the two corrections add up: 0x60 leaves the low digit alone. -/
theorem daaByte_toNat_of_add (a : Byte) {f : Flags} (hn : f.n = false) :
    (daaByte a f).toNat =
      (a.toNat + (if f.c = true ∨ a.toNat > 0x99 then 0x60 else 0) + (if f.h = true ∨ a.toNat % 16 > 9 then 6 else 0)) % 256 := by
  have hhigh : (daaHigh a f).toNat = (a.toNat + (if f.c = true ∨ a.toNat > 0x99 then 0x60 else 0)) % 256 := by
    rw [daaHigh, if_pos hn]
    split
    · rfl
    · exact (Nat.mod_eq_of_lt a.isLt).symm
  have hlow : (daaHigh a f).toNat % 16 = a.toNat % 16 := by
    rw [hhigh]
    split <;> omega
  rw [daaByte, if_pos hn, toNat_lowNibble, hlow]
  split
  · rw [BitVec.toNat_add, hhigh]
    exact Nat.mod_add_mod _ _ _
  · exact hhigh

/-- After a subtraction the two corrections take away. -/
theorem daaByte_toNat_of_sub (a : Byte) {f : Flags} (hn : f.n = true) :
    (daaByte a f).toNat = (a.toNat + (if f.c = true then 256 - 0x60 else 0) + (if f.h = true then 256 - 6 else 0)) % 256 := by
  have hn' : ¬ f.n = false := by rw [hn]; decide
  have hhigh : (daaHigh a f).toNat = (a.toNat + (if f.c = true then 256 - 0x60 else 0)) % 256 := by
    rw [daaHigh, if_neg hn']
    split
    · rw [BitVec.toNat_sub, Nat.add_comm]
      rfl
    · exact (Nat.mod_eq_of_lt a.isLt).symm
  rw [daaByte, if_neg hn']
  split
  · rw [BitVec.toNat_sub, hhigh, Nat.add_comm]
    exact Nat.mod_add_mod _ _ _
  · exact hhigh

/-- A binary sum of decimal digits, 6 added to each digit whose decimal sum carries, holds the digits of the decimal sum. -/
theorem bcdSum_corrected {lo hi : Nat} (hlo : lo ≤ 19) (hhi : hi ≤ 18) :
    (16 * hi + lo + ((if 10 * hi + lo ≥ 100 then 0x60 else 0) + (if lo ≥ 10 then 6 else 0))) % 256 =
      (10 * hi + lo) % 100 / 10 * 16 + (10 * hi + lo) % 100 % 10 := by
  have hmod : (10 * hi + lo) % 100 = if 10 * hi + lo ≥ 100 then 10 * hi + lo - 100 else 10 * hi + lo := by
    split <;> omega
  rw [hmod]
  split_ifs <;> omega

/-- ADC of decimal digits, then DAA: `lo` and `hi` are the sums of the low digits (with the carry) and of the high ones, and DAA
corrects a digit exactly when its decimal sum carries. -/
theorem daa_adc_bcd {x y : Nat} (hx : x < 100) (hy : y < 100) (f : Flags) :
    let p := alu .adc (bcd x) (bcd y) f
    (daa p.1 p.2).1 = bcd ((x + y + f.c.toNat) % 100) ∧ (daa p.1 p.2).2.c = decide (x + y + f.c.toNat ≥ 100) := by
  intro p
  obtain ⟨lo, hlo⟩ : ∃ lo, lo = x % 10 + y % 10 + f.c.toNat := ⟨_, rfl⟩
  obtain ⟨hi, hhi⟩ : ∃ hi, hi = x / 10 + y / 10 := ⟨_, rfl⟩
  have hlo' : lo ≤ 19 := by have := f.c.toNat_le; omega
  have hhi' : hi ≤ 18 := by omega
  have hsum : x + y + f.c.toNat = 10 * hi + lo := by omega
  have hbin : (bcd x).toNat + (bcd y).toNat + f.c.toNat = 16 * hi + lo := by
    rw [bcd_toNat hx, bcd_toNat hy]
    omega
  have hr : p.1.toNat = (16 * hi + lo) % 256 := by
    rw [← hbin]
    exact BitVec.toNat_ofNat _ _
  have hh : p.2.h = true ↔ lo > 0x0F := by
    rw [hlo, ← bcd_toNat_mod x, ← bcd_toNat_mod y]
    exact decide_eq_true_iff
  have hc : p.2.c = true ↔ 16 * hi + lo > 0xFF := by
    rw [← hbin]
    exact decide_eq_true_iff
  have hn : p.2.n = false := rfl
  have hlow : p.2.h = true ∨ p.1.toNat % 16 > 9 ↔ lo ≥ 10 := by
    rw [hh, hr]
    omega
  have hhigh : p.2.c = true ∨ p.1.toNat > 0x99 ↔ 10 * hi + lo ≥ 100 := by
    rw [hc, hr]
    omega
  rw [daa_eq, hsum]
  constructor
  · refine BitVec.eq_of_toNat_eq ?_
    rw [daaByte_toNat_of_add _ hn, bcd_toNat (Nat.mod_lt _ (by decide)), Nat.add_assoc]
    simp only [hlow, hhigh]
    rw [hr, Nat.mod_add_mod]
    exact bcdSum_corrected hlo' hhi'
  · rw [hn, Bool.eq_iff_iff, decide_eq_true_iff, ← hhigh]
    simp

/-- SBC of decimal digits, then DAA: the unit's borrows out of the two digits are the decimal ones, and DAA corrects the digits that
borrowed. -/
theorem daa_sbc_bcd {x y : Nat} (hx : x < 100) (hy : y < 100) (f : Flags) :
    let p := alu .sbc (bcd x) (bcd y) f
    (daa p.1 p.2).1 = bcd ((x + 200 - y - f.c.toNat) % 100) ∧ (daa p.1 p.2).2.c = decide (x < y + f.c.toNat) := by
  intro p
  have hcin := f.c.toNat_le
  have hr : p.1.toNat = (x / 10 * 16 + x % 10 + 256 - (y / 10 * 16 + y % 10) - f.c.toNat) % 256 := by
    have h : p.1 = BitVec.ofInt 8 (((bcd x).toNat : Int) - (bcd y).toNat - f.c.toNat) := rfl
    rw [h, bcd_toNat hx, bcd_toNat hy, BitVec.toNat_ofInt]
    omega
  have hh : p.2.h = true ↔ x % 10 < y % 10 + f.c.toNat := by
    rw [← bcd_toNat_mod x, ← bcd_toNat_mod y]
    exact decide_eq_true_iff
  have hc : p.2.c = true ↔ x < y + f.c.toNat := by
    have h : p.2.c = true ↔ (bcd x).toNat < (bcd y).toNat + f.c.toNat := decide_eq_true_iff
    rw [h, bcd_toNat hx, bcd_toNat hy]
    omega
  have hn : p.2.n = true := rfl
  rw [daa_eq]
  constructor
  · refine BitVec.eq_of_toNat_eq ?_
    rw [daaByte_toNat_of_sub _ hn, bcd_toNat (Nat.mod_lt _ (by decide))]
    simp only [hr, hh, hc]
    split_ifs <;> omega
  · rw [hn, Bool.eq_iff_iff]
    simp only [Bool.not_true, Bool.false_and, Bool.or_false, decide_eq_true_iff, hc]

/-- Settles O17: the two instructions write A and C from `alu` and `daa` alone. -/
theorem daaDecimal : Obligations.DaaDecimal := by
  intro s x y hx hy ha
  obtain ⟨hAdcA, hAdcC⟩ := daa_adc_bcd hx hy s.regs.f
  obtain ⟨hSbcA, hSbcC⟩ := daa_sbc_bcd hx hy s.regs.f
  rw [← ha] at hAdcA hAdcC hSbcA hSbcC
  exact ⟨⟨_, _, rfl, rfl, hAdcA, hAdcC⟩, ⟨_, _, rfl, rfl, hSbcA, hSbcC⟩⟩

end Sys2Proof.Machine
end

section
/-! PROOF. The 16-bit arithmetic (R240 to R242). -/

namespace Sys2Proof.Machine

/-! ### The instructions by their selectors -/

theorem exec_addHlReg16 (r : Reg16) (s : State) : exec (.addHlReg16 r) s = .next (s.addHl r) := by
  cases r <;> rfl

theorem exec_incReg16 (r : Reg16) (s : State) :
    exec (.incReg16 r) s = .next ((s.setReg16 r (s.reg16 r + 1)).retire 1 8) := by
  cases r <;> rfl

theorem exec_decReg16 (r : Reg16) (s : State) :
    exec (.decReg16 r) s = .next ((s.setReg16 r (s.reg16 r - 1)).retire 1 8) := by
  cases r <;> rfl

theorem encode_addHlReg16 (r : Reg16) : encode (.addHlReg16 r) = [0x09 + 16 * r.code] := by
  cases r <;> rfl

theorem encode_incReg16 (r : Reg16) : encode (.incReg16 r) = [0x03 + 16 * r.code] := by
  cases r <;> rfl

theorem encode_decReg16 (r : Reg16) : encode (.decReg16 r) = [0x0B + 16 * r.code] := by
  cases r <;> rfl

/-! ### ADD HL,rr, INC rr and DEC rr -/

/-- The sum and the flags of R240, with the masked operands of its half carry. -/
theorem add16_eq (a b : Word) (f : Flags) :
    add16 a b f =
      (a + b,
        { z := f.z, n := false
          h := decide ((a &&& 0x0FFF).toNat + (b &&& 0x0FFF).toNat > 0x0FFF)
          c := decide (a.toNat + b.toNat > 0xFFFF) }) := by
  rw [add16, toNat_lowTwelve16, toNat_lowTwelve16]

theorem State.addHl_eq (s : State) (r : Reg16) :
    s.addHl r =
      ((s.setHl (add16 s.hl (s.reg16 r) s.regs.f).1).setF (add16 s.hl (s.reg16 r) s.regs.f).2).endAt
        (s.regs.pc + 1) 8 :=
  State.retire_eq_endAt (by simp) 1 8

/-- Settles O19: ADD HL,rr takes the sum and the flags from `add16`; INC and DEC are a register write, which leaves F and PC alone. -/
theorem arith16 : Obligations.Arith16 := by
  refine fun s r => ⟨⟨encode_addHlReg16 r, ?_⟩, ⟨encode_incReg16 r, ?_⟩, ⟨encode_decReg16 r, ?_⟩,
    ⟨rfl, rfl, rfl, rfl⟩, fun v => ⟨rfl, rfl, rfl, rfl⟩⟩
  · rw [exec_addHlReg16, State.addHl_eq, add16_eq]
  · rw [exec_incReg16, State.retire_eq_endAt (s.setReg16_pc r _)]
  · rw [exec_decReg16, State.retire_eq_endAt (s.setReg16_pc r _)]

end Sys2Proof.Machine
end

section
/-! PROOF. The rotates and shifts (R260 to R272), and BIT, RES and SET (R273 to R275). -/

namespace Sys2Proof.Machine

/-! ### The encodings by their selectors -/

theorem encode_rot (op : RotOp) (o : Operand8) : encode (.rot op o) = [0xCB, 8 * op.code + o.code] := by
  cases o with
  | reg r => cases op <;> cases r <;> rfl
  | atHl => cases op <;> rfl

theorem encode_bit (b : Fin 8) (o : Operand8) : encode (.bit b o) = [0xCB, 0x40 + 8 * BitVec.ofNat 8 b.val + o.code] := by
  cases o with
  | reg r => cases r <;> fin_cases b <;> rfl
  | atHl => fin_cases b <;> rfl

theorem encode_res (b : Fin 8) (o : Operand8) : encode (.res b o) = [0xCB, 0x80 + 8 * BitVec.ofNat 8 b.val + o.code] := by
  cases o with
  | reg r => cases r <;> fin_cases b <;> rfl
  | atHl => fin_cases b <;> rfl

theorem encode_set (b : Fin 8) (o : Operand8) : encode (.set b o) = [0xCB, 0xC0 + 8 * BitVec.ofNat 8 b.val + o.code] := by
  cases o with
  | reg r => cases r <;> fin_cases b <;> rfl
  | atHl => fin_cases b <;> rfl

/-! ### A carry moved into a byte -/

theorem getElem_bit0 (c : Bool) {i : Nat} (hi : i < 8) : (bit0 c)[i] = (decide (i = 0) && c) := by
  cases c <;> simp [bit0]

theorem bit7_eq_twoPow (c : Bool) : bit7 c = if c then BitVec.twoPow 8 7 else 0#8 := rfl

theorem getElem_bit7 (c : Bool) {i : Nat} (hi : i < 8) : (bit7 c)[i] = (decide (i = 7) && c) := by
  cases c with
  | false => simp [bit7_eq_twoPow]
  | true => simp [bit7_eq_twoPow, BitVec.getElem_twoPow]

theorem shiftLeft_one_eq_add (v : Byte) : v <<< 1 = v + v :=
  (BitVec.shiftLeft_eq_mul_twoPow v 1).trans BitVec.mul_two

theorem shiftLeft_or_bit0 (v : Byte) (c : Bool) : (v <<< 1) ||| bit0 c = v + v + (if c then 1 else 0) := by
  have hdisjoint : v <<< 1 &&& bit0 c = 0#8 := by
    ext i hi
    cases i <;> simp [getElem_bit0]
  rw [← BitVec.add_eq_or_of_and_eq_zero _ _ hdisjoint, shiftLeft_one_eq_add]
  rfl

theorem shiftRight_one_eq (v : Byte) : v >>> 1 = BitVec.ofNat 8 (v.toNat / 2) :=
  BitVec.eq_of_toNat_eq (by simp [Nat.shiftRight_eq_div_pow]; omega)

theorem shiftRight_or_bit7 (v : Byte) (c : Bool) :
    (v >>> 1) ||| bit7 c = BitVec.ofNat 8 (v.toNat / 2 + (if c then 128 else 0)) := by
  have hdisjoint : v >>> 1 &&& bit7 c = 0#8 := by
    ext i hi
    by_cases h7 : i = 7 <;> simp [getElem_bit7, h7]
  rw [← BitVec.add_eq_or_of_and_eq_zero _ _ hdisjoint, BitVec.ofNat_add, shiftRight_one_eq]
  cases c <;> rfl

/-! ### The results in the form of `rotated` -/

theorem shiftLeft_or_msb (v : Byte) : (v <<< 1) ||| bit0 v[7] = v.rotateLeft 1 := by
  ext i hi
  cases i <;> simp [getElem_bit0, BitVec.getElem_rotateLeft]

theorem shiftRight_or_lsb (v : Byte) : (v >>> 1) ||| bit7 v[0] = v.rotateRight 1 := by
  ext i hi
  by_cases h7 : i = 7
  · simp [getElem_bit7, BitVec.getElem_rotateRight, h7]
  · have hi7 : i < 7 := by omega
    have hi8 : 1 + i < 8 := by omega
    simp [getElem_bit7, BitVec.getElem_rotateRight, h7, hi7, hi8, BitVec.getLsbD_eq_getElem]

theorem shiftRight_or_sign (v : Byte) : (v >>> 1) ||| (v &&& 0x80) = v.sshiftRight 1 := by
  have hsign : v &&& (0x80 : Byte) = bit7 v[7] := BitVec.and_twoPow v 7
  rw [hsign]
  ext i hi
  by_cases h7 : i = 7
  · simp [getElem_bit7, BitVec.getElem_sshiftRight, h7, BitVec.msb_eq_getLsbD_last]
  · have hi7 : 1 + i < 8 := by omega
    simp [getElem_bit7, BitVec.getElem_sshiftRight, h7, hi7]

theorem swap_eq_rotateLeft (v : Byte) : ((v &&& 0x0F) <<< 4) ||| (v >>> 4) = v.rotateLeft 4 := by
  have hlow : (v &&& 0x0F) <<< 4 = v <<< 4 := by
    apply BitVec.eq_of_toNat_eq
    rw [BitVec.toNat_shiftLeft, BitVec.toNat_shiftLeft, toNat_lowNibble, Nat.shiftLeft_eq, Nat.shiftLeft_eq]
    omega
  rw [hlow]
  rfl

theorem rotate_eq_rotated (op : RotOp) (v : Byte) (c : Bool) : rotate op v c = rotated op v c :=
  match op with
  | .rlc => congrArg (·, v[7]) (shiftLeft_or_msb v)
  | .rrc => congrArg (·, v[0]) (shiftRight_or_lsb v)
  | .rl => congrArg (·, v[7]) (shiftLeft_or_bit0 v c)
  | .rr => congrArg (·, v[0]) (shiftRight_or_bit7 v c)
  | .sla => congrArg (·, v[7]) (shiftLeft_one_eq_add v)
  | .sra => congrArg (·, v[0]) (shiftRight_or_sign v)
  | .swap => congrArg (·, false) (swap_eq_rotateLeft v)
  | .srl => congrArg (·, v[0]) (shiftRight_one_eq v)

theorem rotateFlags_eq (r : Byte) (c : Bool) : rotateFlags r c = { z := decide (r = 0), n := false, h := false, c := c } := by
  rw [rotateFlags, isZero_eq]

/-! ### The rotates and shifts -/

theorem State.rotateAcc_eq (s : State) (op : RotOp) :
    s.rotateAcc op =
      ((s.setA (rotated op s.regs.a s.regs.f.c).1).setF
        { z := false, n := false, h := false, c := (rotated op s.regs.a s.regs.f.c).2 }).endAt (s.regs.pc + 1) 4 := by
  rw [State.rotateAcc, rotate_eq_rotated]
  rfl

/-- Settles O20: the four are `State.rotateAcc`, whose results are those of `rotated`. -/
theorem accRotates : Obligations.AccRotates := fun s =>
  ⟨⟨rfl, congrArg Host.Outcome.next (s.rotateAcc_eq .rlc)⟩, ⟨rfl, congrArg Host.Outcome.next (s.rotateAcc_eq .rrc)⟩,
    ⟨rfl, congrArg Host.Outcome.next (s.rotateAcc_eq .rl)⟩, ⟨rfl, congrArg Host.Outcome.next (s.rotateAcc_eq .rr)⟩⟩

theorem State.rotateOperand_eq (s : State) (op : RotOp) (o : Operand8) :
    s.rotateOperand op o =
      (((s.readOperand o).2.writeOperand o (rotated op (s.readOperand o).1 s.regs.f.c).1).setF
        { z := decide ((rotated op (s.readOperand o).1 s.regs.f.c).1 = 0), n := false, h := false
          c := (rotated op (s.readOperand o).1 s.regs.f.c).2 }).endAt (s.regs.pc + 2) (operandCost o 8 16) := by
  rw [← rotate_eq_rotated, ← rotateFlags_eq]
  refine Eq.trans ?_ (State.retire_eq_endAt (by simp) 2 (operandCost o 8 16))
  rfl

/-- Settles O21: both operand forms by the operation they share. -/
theorem cbRotates : Obligations.CbRotates := by
  refine fun s op => ⟨encode_rot op, fun r => ?_, ?_⟩
  · rw [exec_rot, State.rotateOperand_eq]
    rfl
  · rw [exec_rot, State.rotateOperand_eq, State.writeOperand_readOperand_atHl]
    rfl

/-! ### BIT, RES and SET -/

theorem bitFlags_eq (v : Byte) (b : Fin 8) (f : Flags) :
    bitFlags v b f = { z := decide (v.toNat / 2 ^ b.val % 2 = 0), n := false, h := true, c := f.c } := by
  rw [bitFlags, ← BitVec.testBit_toNat, Nat.testBit_eq_decide_div_mod_eq]
  simp only [← decide_not, Nat.mod_two_not_eq_one]

theorem getLsbD_bitMask (b : Fin 8) (k : Nat) : ((1 : Byte) <<< b.val).getLsbD k = decide (k = b.val) := by
  have hmask : (1 : Byte) <<< b.val = BitVec.twoPow 8 b.val := (BitVec.twoPow_eq 8 b.val).symm
  rw [hmask, BitVec.getLsbD_twoPow]
  simp [eq_comm]

theorem getLsbD_resBit (v : Byte) (b : Fin 8) {k : Nat} (hk : k < 8) :
    (resBit v b).getLsbD k = if k = b.val then false else v.getLsbD k := by
  rw [resBit, BitVec.getLsbD_and, BitVec.getLsbD_not, getLsbD_bitMask]
  by_cases hkb : k = b.val
  · simp [hkb]
  · simp [hkb, hk]

theorem getLsbD_setBit (v : Byte) (b : Fin 8) (k : Nat) :
    (setBit v b).getLsbD k = if k = b.val then true else v.getLsbD k := by
  rw [setBit, BitVec.getLsbD_or, getLsbD_bitMask]
  by_cases hkb : k = b.val
  · simp [hkb]
  · simp [hkb]

theorem State.testBit_eq (s : State) (b : Fin 8) (o : Operand8) :
    s.testBit b o =
      ((s.readOperand o).2.setF
        { z := decide ((s.readOperand o).1.toNat / 2 ^ b.val % 2 = 0), n := false, h := true, c := s.regs.f.c }).endAt
        (s.regs.pc + 2) (operandCost o 8 12) := by
  rw [← bitFlags_eq]
  refine Eq.trans ?_ (State.retire_eq_endAt (by simp) 2 (operandCost o 8 12))
  rfl

theorem State.resetBit_eq (s : State) (b : Fin 8) (o : Operand8) :
    s.resetBit b o =
      ((s.readOperand o).2.writeOperand o (resBit (s.readOperand o).1 b)).endAt (s.regs.pc + 2) (operandCost o 8 16) := by
  refine Eq.trans ?_ (State.retire_eq_endAt (by simp) 2 (operandCost o 8 16))
  rfl

theorem State.assignBit_eq (s : State) (b : Fin 8) (o : Operand8) :
    s.assignBit b o =
      ((s.readOperand o).2.writeOperand o (setBit (s.readOperand o).1 b)).endAt (s.regs.pc + 2) (operandCost o 8 16) := by
  refine Eq.trans ?_ (State.retire_eq_endAt (by simp) 2 (operandCost o 8 16))
  rfl

/-- Settles O22: both operand forms by the operation they share. -/
theorem bitTest : Obligations.BitTest := fun s b =>
  ⟨encode_bit b, fun r => (exec_bit b (.reg r) s).trans (congrArg Host.Outcome.next (s.testBit_eq b (.reg r))),
    (exec_bit b .atHl s).trans (congrArg Host.Outcome.next (s.testBit_eq b .atHl))⟩

/-- Settles O23: the bytes written are `resBit` and `setBit` of the operand, described bit by bit. -/
theorem resSet : Obligations.ResSet := by
  refine fun s b => ⟨fun o => ⟨encode_res b o, encode_set b o⟩, fun r => ⟨?resReg, ?setReg⟩, ?resAtHl, ?setAtHl⟩
  case resReg =>
    refine ⟨resBit (s.reg8 r) b, fun k hk => getLsbD_resBit _ b hk, ?_⟩
    rw [exec_res, State.resetBit_eq]
    rfl
  case setReg =>
    refine ⟨setBit (s.reg8 r) b, fun k _ => getLsbD_setBit _ b k, ?_⟩
    rw [exec_set, State.assignBit_eq]
    rfl
  case resAtHl =>
    refine ⟨resBit (s.readByte s.hl) b, fun k hk => getLsbD_resBit _ b hk, ?_⟩
    rw [exec_res, State.resetBit_eq, State.writeOperand_readOperand_atHl]
    rfl
  case setAtHl =>
    refine ⟨setBit (s.readByte s.hl) b, fun k _ => getLsbD_setBit _ b k, ?_⟩
    rw [exec_set, State.assignBit_eq, State.writeOperand_readOperand_atHl]
    rfl

end Sys2Proof.Machine
end

section
/-! PROOF. The control transfers (R300 to R311), and the stack in work RAM: what is pushed there is what is popped (R79, R173, R174). -/

namespace Sys2Proof.Machine

/-! ### The instructions by their selectors -/

theorem exec_jpCond (cc : Cond) (nn : Word) (s : State) : exec (.jpCond cc nn) s = .next (s.jumpIf cc nn) := by
  cases cc <;> rfl

theorem exec_jrCond (cc : Cond) (e : Byte) (s : State) : exec (.jrCond cc e) s = .next (s.jumpRelativeIf cc e) := by
  cases cc <;> rfl

theorem exec_callCond (cc : Cond) (nn : Word) (s : State) : exec (.callCond cc nn) s = .next (s.callIf cc nn) := by
  cases cc <;> rfl

theorem exec_retCond (cc : Cond) (s : State) : exec (.retCond cc) s = .next (s.returnIf cc) := by
  cases cc <;> rfl

theorem exec_rst (y : Fin 8) (s : State) : exec (.rst y) s = .next (s.restart y) := by
  fin_cases y <;> rfl

theorem encode_jpCond (cc : Cond) (nn : Word) : encode (.jpCond cc nn) = [0xC2 + 8 * cc.code, loByte nn, hiByte nn] := by
  cases cc <;> rfl

theorem encode_jrCond (cc : Cond) (e : Byte) : encode (.jrCond cc e) = [0x20 + 8 * cc.code, e] := by
  cases cc <;> rfl

theorem encode_callCond (cc : Cond) (nn : Word) :
    encode (.callCond cc nn) = [0xC4 + 8 * cc.code, loByte nn, hiByte nn] := by
  cases cc <;> rfl

theorem encode_retCond (cc : Cond) : encode (.retCond cc) = [0xC0 + 8 * cc.code] := by
  cases cc <;> rfl

theorem encode_rst (y : Fin 8) : encode (.rst y) = [0xC7 + 8 * BitVec.ofNat 8 y.val] := by
  fin_cases y <;> rfl

/-! ### Jumps -/

/-- The target of a relative jump over the integers, narrowed (R304). -/
theorem relativeTarget_eq (pc0 : Word) (e : Byte) : relativeTarget pc0 e = BitVec.ofInt 16 (pc0.toNat + 2 + e.toInt) := by
  rw [relativeTarget, add_right_comm, add_sext16, add_right_comm, BitVec.ofInt_add _ 2]
  rfl

theorem State.jumpIf_eq (s : State) (cc : Cond) (target : Word) :
    s.jumpIf cc target =
      if condHolds s.regs.f cc = true then s.endAt target 16 else s.endAt (s.regs.pc + 3) 12 := rfl

theorem State.jumpRelativeIf_eq (s : State) (cc : Cond) (e : Byte) :
    s.jumpRelativeIf cc e =
      if condHolds s.regs.f cc = true then s.endAt (BitVec.ofInt 16 (s.regs.pc.toNat + 2 + e.toInt)) 12
      else s.endAt (s.regs.pc + 2) 8 := by
  rw [← relativeTarget_eq]
  rfl

theorem exec_jrE (e : Byte) (s : State) : exec (.jrE e) s = .next (s.endAt (relativeTarget s.regs.pc e) 12) := rfl

/-- Settles O24: a jump is `State.jump`, and one not taken `State.retire`; the relative target is `relativeTarget_eq`. -/
theorem jumps : Obligations.Jumps := by
  refine ⟨fun f => ⟨rfl, rfl, rfl, rfl⟩, fun s => ⟨fun nn => ⟨rfl, rfl⟩, ⟨rfl, rfl⟩, fun e => ⟨rfl, ?_⟩,
    fun cc nn => ⟨encode_jpCond cc nn, ?_⟩, fun cc e => ⟨encode_jrCond cc e, ?_⟩⟩⟩
  · rw [exec_jrE, relativeTarget_eq]
  · rw [exec_jpCond, State.jumpIf_eq]
  · rw [exec_jrCond, State.jumpRelativeIf_eq]

/-! ### Calls -/

theorem State.push16_jump (s : State) (v target : Word) (cycles : Nat) :
    (s.push16 v).jump target cycles =
      (((s.writeByte (s.regs.sp - 1) (hiByte v)).writeByte (s.regs.sp - 2) (loByte v)).setSp (s.regs.sp - 2)).endAt
        target cycles := rfl

theorem State.callIf_eq (s : State) (cc : Cond) (target : Word) :
    s.callIf cc target = if condHolds s.regs.f cc = true then s.call target else s.endAt (s.regs.pc + 3) 12 := rfl

/-- The target of RST t, with t = 8 * y (R311). -/
theorem State.restart_eq (s : State) (y : Fin 8) :
    s.restart y = (s.push16 (s.regs.pc + 1)).jump (BitVec.ofNat 16 (y.val * 8)) 16 := by
  rw [State.restart, Nat.mul_comm, BitVec.ofNat_mul]
  rfl

/-- Settles O25: each pushes its return address and jumps, which is `State.push16_jump`. -/
theorem calls : Obligations.Calls := by
  refine fun s => ⟨fun nn => ⟨rfl, congrArg Host.Outcome.next (s.push16_jump (s.regs.pc + 3) nn 24)⟩,
    fun cc nn => ⟨encode_callCond cc nn, ?_⟩, fun y => ⟨encode_rst y, ?_⟩⟩
  · rw [exec_callCond, State.callIf_eq, State.call, State.push16_jump]
  · rw [exec_rst, State.restart_eq, State.push16_jump]

/-! ### Returns -/

theorem State.returnWith_eq (s : State) (cycles : Nat) :
    s.returnWith cycles =
      (((s.afterRead s.regs.sp).afterRead (s.regs.sp + 1)).setSp (s.regs.sp + 2)).endAt
        (mkWord ((s.afterRead s.regs.sp).readByte (s.regs.sp + 1)) (s.readByte s.regs.sp)) cycles := rfl

theorem State.returnIf_eq (s : State) (cc : Cond) :
    s.returnIf cc = if condHolds s.regs.f cc = true then s.returnWith 20 else s.endAt (s.regs.pc + 1) 8 := rfl

/-- RETI is RET with `ime` set (R310). -/
theorem State.returnFromInterrupt_spend (s : State) (cycles : Nat) :
    s.returnFromInterrupt.spend cycles = { s.returnWith cycles with ime := true } := rfl

theorem exec_ret (s : State) : exec .ret s = .next (s.returnWith 16) := rfl

theorem exec_reti (s : State) : exec .reti s = .next { s.returnWith 16 with ime := true } :=
  congrArg Host.Outcome.next (s.returnFromInterrupt_spend 16)

/-- Settles O26: each is `State.returnWith`, whose two reads are in the order of `State.pop16`. -/
theorem returns : Obligations.Returns := by
  refine fun s => ⟨⟨rfl, ?_⟩, fun cc => ⟨encode_retCond cc, ?_⟩, rfl, ?_⟩
  · rw [exec_ret, State.returnWith_eq]
  · rw [exec_retCond, State.returnIf_eq, State.returnWith_eq]
  · rw [exec_reti, State.returnWith_eq]

/-! ### The stack in work RAM -/

/-- An access to cell `k` of work RAM (R79). -/
theorem State.wram_access (s : State) {a : Word} {k : Nat} (ha : a.toNat = 0xC000 + k) (hk : k ≤ 0x1FFF) (v : Byte) :
    s.readByte a = s.wram.read k ∧ s.writeByte a v = { s with wram := s.wram.write k v } := by
  have hr : regionOf a = .wram k := by rw [regionOf_wram (by omega) (by omega), ha, Nat.add_sub_cancel_left]
  exact s.access_of_region hr v

/-- The two cells of work RAM that a push writes (R173). -/
theorem State.push16_wram (s : State) (v : Word) {k : Nat} (hsp : s.regs.sp.toNat = 0xC002 + k) (hk : k < 0x1FFF) :
    (s.push16 v).wram = (s.wram.write (k + 1) (hiByte v)).write k (loByte v) := by
  have hhi : (s.regs.sp - 1).toNat = 0xC000 + (k + 1) := by bv_omega
  have hlo : (s.regs.sp - 2).toNat = 0xC000 + k := by bv_omega
  rw [State.push16, (s.wram_access hhi hk _).2, (State.wram_access _ hlo hk.le _).2]
  rfl

/-- The two cells of work RAM that a pop reads (R174). -/
theorem State.pop16_fst_of_wram (s : State) {k : Nat} (hsp : s.regs.sp.toNat = 0xC000 + k) (hk : k < 0x1FFF) :
    s.pop16.1 = mkWord (s.wram.read (k + 1)) (s.wram.read k) := by
  have hsp1 : (s.regs.sp + 1).toNat = 0xC000 + (k + 1) := by bv_omega
  have hhi : (s.afterRead s.regs.sp).readByte (s.regs.sp + 1) = s.wram.read (k + 1) := by
    rw [(State.wram_access _ hsp1 hk 0).1, State.afterRead_wram]
  have hlo : s.readByte s.regs.sp = s.wram.read k := (s.wram_access hsp hk.le 0).1
  exact congrArg₂ mkWord hhi hlo

/-- What was pushed is popped, from any state that has SP and work RAM as the push left them. -/
theorem State.pop16_fst_of_push16 {s t : State} {v : Word} (hw : s.wram.Wf) (h : 0xC002 ≤ s.regs.sp.toNat)
    (h' : s.regs.sp.toNat ≤ 0xE000) (hregs : t.regs.sp = s.regs.sp - 2) (hwram : t.wram = (s.push16 v).wram) :
    t.pop16.1 = v := by
  obtain ⟨k, hk⟩ := Nat.exists_eq_add_of_le h
  have hsp : t.regs.sp.toNat = 0xC000 + k := by rw [hregs]; bv_omega
  have hw' : (s.wram.write (k + 1) (hiByte v)).Wf := Memory.write_wf hw _ _
  rw [t.pop16_fst_of_wram hsp (by omega), hwram, s.push16_wram v hk (by omega), Memory.read_write_same hw',
    Memory.read_write_ne hw' _ (Nat.ne_of_lt k.lt_succ_self), Memory.read_write_same hw, mkWord_hiByte_loByte]

theorem State.returnWith_regs (s : State) (cycles : Nat) :
    (s.returnWith cycles).regs = { s.regs with sp := s.regs.sp + 2, pc := s.pop16.1 } := by
  simp [State.returnWith, State.jump, State.spend, State.setPc]

/-- Settles O27: by `State.pop16_fst_of_push16`, since neither the jump of a CALL nor the rest of a dispatch moves SP or writes
memory. -/
theorem callReturns : Obligations.CallReturns := by
  intro s hw h h'
  refine ⟨fun nn => ⟨s.call nn, (s.call nn).returnWith 16, rfl, rfl, rfl, ?callPc, ?callSp⟩,
    fun i => ⟨_, exec_reti (s.dispatch i), ?retiRegs, rfl⟩⟩
  case callPc => exact State.pop16_fst_of_push16 hw h h' rfl rfl
  case callSp =>
    rw [State.returnWith_regs]
    exact BitVec.sub_add_cancel _ _
  case retiRegs =>
    have hpc : (s.dispatch i).pop16.1 = s.regs.pc := State.pop16_fst_of_push16 hw h h' (by rw [State.dispatch_regs]) rfl
    show ((s.dispatch i).returnWith 16).regs = s.regs
    rw [State.returnWith_regs, hpc, State.dispatch_regs, BitVec.sub_add_cancel]

end Sys2Proof.Machine
end

section
/-! PROOF. NOP, HALT, DI and EI (R330, R331, R333, R334). -/

namespace Sys2Proof.Machine

/-! ### The effect of each, before PC and the cost (R150) -/

theorem exec_nop (s : State) : exec .nop s = .next (s.retire 1 4) := rfl

theorem exec_halt (s : State) : exec .halt s = .next ({ s with halted := true }.retire 1 4) := rfl

theorem exec_di (s : State) : exec .di s = .next ({ s with ime := false, eiDelay := 0 }.retire 1 4) := rfl

theorem exec_ei (s : State) :
    exec .ei s = .next ({ s with eiDelay := if s.eiDelay = 0 then 2 else s.eiDelay }.retire 1 4) := rfl

/-- An instruction whose effect leaves PC alone ends with PC = pc0 + length. -/
theorem exec_eq_endAt {i : Instr} {s t : State} {length : Word} {cycles : Nat}
    (hexec : exec i s = .next (t.retire length cycles)) (hpc : t.regs.pc = s.regs.pc) :
    exec i s = .next (t.endAt (s.regs.pc + length) cycles) := by
  rw [hexec, State.retire_eq_endAt hpc]

/-- Settles O28: NOP has no effect, and each of the others is a write of the interrupt control state, which leaves PC to the end of
the instruction. -/
theorem interruptControl : Obligations.InterruptControl := fun s =>
  ⟨⟨rfl, exec_eq_endAt (exec_nop s) rfl⟩, ⟨rfl, exec_eq_endAt (exec_halt s) rfl⟩, ⟨rfl, exec_eq_endAt (exec_di s) rfl⟩,
    rfl, exec_eq_endAt (exec_ei s) rfl⟩

end Sys2Proof.Machine
end

section
/-! PROOF. The interrupt check (R360 to R364), the halted step (R352), and the latency of EI (R333, R334, R356). -/

namespace Sys2Proof.Machine

/-! ### The interrupt check -/

/-- The lowest request of a byte with some bit of 4..0 set and no other (R362, R363). -/
theorem lowestRequest_spec (v : Byte) (hmask : v &&& 0x1F = v) (hne : v ≠ 0) :
    lowestRequest v < 5 ∧ v.getLsbD (lowestRequest v) = true ∧ ∀ j < lowestRequest v, v.getLsbD j = false := by
  revert v
  decide

theorem State.pending_masked (s : State) : s.pending &&& 0x1F = s.pending := by
  rw [State.pending, BitVec.and_assoc, BitVec.and_self]

theorem vectorOf_eq (i : Nat) : vectorOf i = BitVec.ofNat 16 (0x0040 + 8 * i) := by
  rw [vectorOf, BitVec.ofNat_add, BitVec.ofNat_mul]
  rfl

/-- The state after a dispatch, with its two stores written out (R362). -/
theorem State.dispatch_eq (s : State) (i : Nat) :
    s.dispatch i =
      let t := (s.writeByte (s.regs.sp - 1) (hiByte s.regs.pc)).writeByte (s.regs.sp - 2) (loByte s.regs.pc)
      { t with regs.sp := s.regs.sp - 2, regs.pc := BitVec.ofNat 16 (0x0040 + 8 * i),
               intFlag := t.intFlag &&& ~~~((1 : Byte) <<< i), ime := false, halted := false } := by
  rw [← vectorOf_eq]
  rfl

theorem State.interruptCheck_of_ime {s : State} (hi : s.ime = true) (hp : s.pending ≠ 0) :
    s.interruptCheck = (.dispatched, s.dispatch (lowestRequest s.pending)) := if_pos ⟨hi, hp⟩

theorem State.interruptCheck_of_halted {s : State} (hi : s.ime = false) (hh : s.halted = true) (hp : s.pending ≠ 0) :
    s.interruptCheck = (.woken, { s with halted := false }) := by
  rw [State.interruptCheck, if_neg (by simp [hi]), if_pos ⟨hi, hh, hp⟩]

theorem State.interruptCheck_of_idle {s : State} (h : s.pending = 0 ∨ (s.ime = false ∧ s.halted = false)) :
    s.interruptCheck = (.idle, s) := by
  obtain hp | ⟨hi, hh⟩ := h
  · rw [State.interruptCheck, if_neg (by simp [hp]), if_neg (by simp [hp])]
  · rw [State.interruptCheck, if_neg (by simp [hi]), if_neg (by simp [hh])]

theorem State.interruptPhase_of_dispatched {s t : State} (h : s.interruptCheck = (.dispatched, t)) :
    s.interruptPhase = ({ t with cycles := t.cycles + 20 } : State).advance 20 := by
  rw [State.interruptPhase, h]
  rfl

theorem State.interruptPhase_of_woken {s t : State} (h : s.interruptCheck = (.woken, t)) : s.interruptPhase = t := by
  rw [State.interruptPhase, h]

theorem State.interruptPhase_of_idle {s t : State} (h : s.interruptCheck = (.idle, t)) : s.interruptPhase = t := by
  rw [State.interruptPhase, h]

/-- Settles O38: the three outcomes of the check, and for a dispatch the lowest request and the state written out. -/
theorem interruptCheck : Obligations.InterruptCheck := by
  refine fun s => ⟨rfl, fun hi hp => ?dispatched, fun hi hh hp => ?woken, fun h => ?idle⟩
  case dispatched =>
    obtain ⟨hlt, hset, hlow⟩ := lowestRequest_spec s.pending s.pending_masked hp
    have hc := State.interruptCheck_of_ime hi hp
    rw [State.dispatch_eq] at hc
    exact ⟨lowestRequest s.pending, hlt, hset, hlow, hc, State.interruptPhase_of_dispatched hc⟩
  case woken =>
    have hc := State.interruptCheck_of_halted hi hh hp
    exact ⟨hc, State.interruptPhase_of_woken hc⟩
  case idle =>
    have hc := State.interruptCheck_of_idle h
    exact ⟨hc, State.interruptPhase_of_idle hc⟩

/-! ### The halted step -/

/-- The start of a step leaves the registers and the control state alone (R350). -/
theorem State.beginStep_cpu (s : State) :
    s.beginStep.regs = s.regs ∧ s.beginStep.ime = s.ime ∧ s.beginStep.eiDelay = s.eiDelay ∧ s.beginStep.halted = s.halted := by
  rw [State.beginStep_eq]
  exact ⟨rfl, rfl, rfl, rfl⟩

/-- Settles O37: a step that starts halted is `State.haltedStep`; with nothing pending its check is idle, and an advance of the
devices leaves the CPU's own state alone. -/
theorem haltedStep : Obligations.HaltedStep := by
  intro s hf hh
  obtain ⟨hregs, hime, hei, hhalted⟩ := s.beginStep_cpu
  have hstep := step_of_halted hf (hhalted.trans hh)
  refine ⟨hstep, fun hp => ⟨_, hstep.trans (congrArg _ (State.interruptPhase_of_idle (State.interruptCheck_of_idle (.inl hp)))),
    ?_⟩⟩
  simp [hregs, hime, hei, hhalted, hh, haltSlice]

/-! ### The latency of EI -/

theorem State.eiCountdown_of_zero {s : State} (h : s.eiDelay = 0) : s.eiCountdown = s := if_pos h

theorem State.eiCountdown_of_one {s : State} (h : s.eiDelay = 1) : s.eiCountdown = { s with eiDelay := 0, ime := true } := by
  simp [State.eiCountdown, h]

theorem State.eiCountdown_of_more {s : State} (h : 1 < s.eiDelay) : s.eiCountdown = { s with eiDelay := s.eiDelay - 1 } := by
  rw [State.eiCountdown, if_neg (by omega), if_neg (by omega)]

/-- With `ime` clear the check can only wake the machine (R362, R364). -/
theorem State.interruptPhase_of_ime_false {s : State} (h : s.ime = false) : ∃ b, s.interruptPhase = { s with halted := b } := by
  by_cases hp : s.pending = 0
  · exact ⟨s.halted, State.interruptPhase_of_idle (State.interruptCheck_of_idle (.inl hp))⟩
  · cases hh : s.halted with
    | true => exact ⟨false, State.interruptPhase_of_woken (State.interruptCheck_of_halted h hh hp)⟩
    | false => exact ⟨s.halted, State.interruptPhase_of_idle (State.interruptCheck_of_idle (.inr ⟨h, hh⟩))⟩

/-- A countdown that does not stand at 1 leaves `ime` and the registers alone (R356). -/
theorem State.eiCountdown_of_ne_one {s : State} (h : s.eiDelay ≠ 1) : s.eiCountdown = { s with eiDelay := s.eiDelay - 1 } := by
  by_cases h0 : s.eiDelay = 0
  · rw [State.eiCountdown_of_zero h0, h0, Nat.zero_sub, ← h0]
  · exact State.eiCountdown_of_more (by omega)

/-- The end of a step with `ime` clear and no countdown that sets it: nothing is dispatched. -/
theorem State.finishStep_of_ime_false {u : State} (hf : u.fatal = none) (hi : u.ime = false) (hd : u.eiDelay ≠ 1) :
    u.finishStep.ime = false ∧ u.finishStep.eiDelay = u.eiDelay - 1 ∧ u.finishStep.regs = u.regs := by
  have hime : (u.eiCountdown.advance u.cycles).ime = false := by simp [State.eiCountdown_of_ne_one hd, hi]
  obtain ⟨b, hb⟩ := State.interruptPhase_of_ime_false hime
  rw [State.finishStep_of_running hf, hb]
  simp [State.eiCountdown_of_ne_one hd, hi]

/-- The start of a step and the fetch leave the registers and the control state alone. -/
theorem State.fetch_beginStep_cpu (s : State) :
    s.beginStep.fetch.2.regs = s.regs ∧ s.beginStep.fetch.2.ime = s.ime ∧ s.beginStep.fetch.2.eiDelay = s.eiDelay ∧
      s.beginStep.fetch.2.fatal = s.fatal := by
  rw [State.fetch_eq, State.beginStep_eq]
  exact ⟨rfl, rfl, rfl, rfl⟩

/-- The step of an instruction that leaves `ime` clear and arms no countdown at 1. -/
theorem step_of_ime_false {s u : State} (hf : s.fatal = none) (hh : s.halted = false)
    (hu : exec s.beginStep.fetch.1 s.beginStep.fetch.2 = .next u) (huf : u.fatal = none) (hi : u.ime = false)
    (hd : u.eiDelay ≠ 1) : ∃ t, step s = .next t ∧ t.ime = false ∧ t.eiDelay = u.eiDelay - 1 ∧ t.regs = u.regs :=
  ⟨_, step_of_exec hf (s.beginStep_halted.trans hh) hu, State.finishStep_of_ime_false huf hi hd⟩

/-- EI arms the countdown, and its own step counts it once (R334, R356). -/
theorem step_ei {s : State} (hf : s.fatal = none) (hh : s.halted = false) (hi : s.ime = false) (hd : s.eiDelay = 0)
    (hfetch : s.beginStep.fetch.1 = .ei) :
    ∃ t, step s = .next t ∧ t.ime = false ∧ t.eiDelay = 1 ∧ t.regs = { s.regs with pc := s.regs.pc + 1 } := by
  obtain ⟨hregs, hime, hei, hfatal⟩ := s.fetch_beginStep_cpu
  have hexec := exec_ei s.beginStep.fetch.2
  rw [if_pos (hei.trans hd), ← hfetch] at hexec
  rw [← hregs]
  exact step_of_ime_false hf hh hexec (hfatal.trans hf) (hime.trans hi) (by decide : (2 : Nat) ≠ 1)

/-- DI clears `ime` and the countdown, so its step dispatches nothing (R333). -/
theorem step_di {s : State} (hf : s.fatal = none) (hh : s.halted = false) (hfetch : s.beginStep.fetch.1 = .di) :
    ∃ t, step s = .next t ∧ t.ime = false ∧ t.eiDelay = 0 ∧ t.regs = { s.regs with pc := s.regs.pc + 1 } := by
  obtain ⟨hregs, -, -, hfatal⟩ := s.fetch_beginStep_cpu
  have hexec := exec_di s.beginStep.fetch.2
  rw [← hfetch] at hexec
  rw [← hregs]
  exact step_of_ime_false hf hh hexec (hfatal.trans hf) rfl (by decide : (0 : Nat) ≠ 1)

/-- Of all instructions only DI takes away a countdown that stands at 1; EI does not arm it again (R334). -/
theorem exec_eiDelay_of_one {i : Instr} {s : State} (hd : s.eiDelay = 1) (hi : i ≠ .di) (hfatal : i ∉ fatalInstrs) :
    ∃ u, exec i s = .next u ∧ u.eiDelay = 1 ∧ u.fatal = s.fatal := by
  obtain ⟨u, hu, hcpu⟩ := exec_cpuFrame i s
  refine ⟨u, hu, ?_, hcpu.fatal.resolve_right hfatal⟩
  obtain h | rfl | rfl := hcpu.eiDelay
  · exact h.trans hd
  · exact absurd rfl hi
  · rw [exec_ei] at hu
    obtain rfl := Host.Outcome.next.inj hu
    exact (if_neg (by omega)).trans hd

/-- Settles O39: the countdown by its cases, EI's and DI's own steps by `step_ei` and `step_di`, and the step of any other instruction
by what it leaves of the countdown. -/
theorem eiLatency : Obligations.EiLatency := by
  refine ⟨fun s => ⟨State.eiCountdown_of_zero, State.eiCountdown_of_one, State.eiCountdown_of_more⟩,
    fun s => step_ei, fun s hf hh hd hmem => ?next, fun s => step_di⟩
  case next =>
    obtain ⟨hdi, hfatal⟩ := not_or.mp (fun h => hmem (List.mem_cons.mpr h))
    obtain ⟨-, -, hei, hfetch⟩ := s.fetch_beginStep_cpu
    obtain ⟨u, hu, hu1, huf⟩ := exec_eiDelay_of_one (hei.trans hd) hdi hfatal
    refine ⟨u, hu, ?_⟩
    rw [step_of_exec hf (s.beginStep_halted.trans hh) hu, State.finishStep_of_running (huf.trans (hfetch.trans hf)),
      State.eiCountdown_of_one hu1]

end Sys2Proof.Machine
end

section
/-! PROOF. The timer and divider (R400, R402). -/

namespace Sys2Proof.Machine

/-! ### TIMA's increments -/

/-- An increment of TIMA touches TIMA and IF. -/
theorem State.tickTima_eq (s : State) :
    s.tickTima =
      { s with timer.tima := if s.timer.tima = 0xFF then s.timer.tma else s.timer.tima + 1,
               intFlag := if s.timer.tima = 0xFF then s.intFlag ||| 0x04 else s.intFlag } := by
  unfold State.tickTima
  split <;> rfl

/-- Increments of TIMA touch TIMA and IF. -/
theorem State.tickTimas_eq (n : Nat) (s : State) :
    State.tickTimas n s =
      { s with timer.tima := (State.tickTimas n s).timer.tima, intFlag := (State.tickTimas n s).intFlag } := by
  induction n generalizing s with
  | zero => rfl
  | succ n ih =>
    rw [State.tickTimas, ih, State.tickTima_eq]

/-! ### The two cases of AdvanceTimer -/

/-- The state with these values of DIV and of the two accumulators. -/
def State.setTimerCounts (s : State) (div : Byte) (divAcc timaAcc : Nat) : State :=
  { s with timer.div := div, timer.divAcc := divAcc, timer.timaAcc := timaAcc }

@[simp] theorem State.setTimerCounts_div (s : State) (v : Byte) (a b : Nat) : (s.setTimerCounts v a b).timer.div = v := rfl
@[simp] theorem State.setTimerCounts_divAcc (s : State) (v : Byte) (a b : Nat) : (s.setTimerCounts v a b).timer.divAcc = a := rfl
@[simp] theorem State.setTimerCounts_timaAcc (s : State) (v : Byte) (a b : Nat) : (s.setTimerCounts v a b).timer.timaAcc = b := rfl
@[simp] theorem State.setTimerCounts_tima (s : State) (v : Byte) (a b : Nat) :
    (s.setTimerCounts v a b).timer.tima = s.timer.tima := rfl
@[simp] theorem State.setTimerCounts_intFlag (s : State) (v : Byte) (a b : Nat) :
    (s.setTimerCounts v a b).intFlag = s.intFlag := rfl
@[simp] theorem State.setTimerCounts_tac (s : State) (v : Byte) (a b : Nat) :
    (s.setTimerCounts v a b).timer.tac = s.timer.tac := rfl
@[simp] theorem State.setTimerCounts_twice (s : State) (v w : Byte) (a b c d : Nat) :
    (s.setTimerCounts v a b).setTimerCounts w c d = s.setTimerCounts w c d := rfl

/-- An increment of TIMA does not look at DIV or at the accumulators. -/
@[simp] theorem State.tickTimas_setTimerCounts (n : Nat) (s : State) (v : Byte) (a b : Nat) :
    State.tickTimas n (s.setTimerCounts v a b) = (State.tickTimas n s).setTimerCounts v a b :=
  State.tickTimas_with n s v a b

theorem State.advanceTimer_of_enabled {s : State} (h : s.timer.tac[2] = true) (c : Nat) :
    s.advanceTimer c =
      (State.tickTimas ((s.timer.timaAcc + c) / timerPeriod s.timer.tac) s).setTimerCounts
        (s.timer.div + BitVec.ofNat 8 ((s.timer.divAcc + c) / 256)) ((s.timer.divAcc + c) % 256)
        ((s.timer.timaAcc + c) % timerPeriod s.timer.tac) := by
  rw [State.advanceTimer_eq, if_pos h]
  rfl

theorem State.advanceTimer_of_disabled {s : State} (h : s.timer.tac[2] = false) (c : Nat) :
    s.advanceTimer c =
      s.setTimerCounts (s.timer.div + BitVec.ofNat 8 ((s.timer.divAcc + c) / 256)) ((s.timer.divAcc + c) % 256)
        s.timer.timaAcc := by
  rw [State.advanceTimer_eq, if_neg (by simp [h])]
  rfl

/-- DIV and its accumulator, whatever TAC is (R400). -/
theorem State.advanceTimer_div (s : State) (c : Nat) :
    (s.advanceTimer c).timer.div = s.timer.div + BitVec.ofNat 8 ((s.timer.divAcc + c) / 256) ∧
      (s.advanceTimer c).timer.divAcc = (s.timer.divAcc + c) % 256 := by
  cases h : s.timer.tac[2]
  · rw [State.advanceTimer_of_disabled h]
    exact ⟨rfl, rfl⟩
  · rw [State.advanceTimer_of_enabled h]
    exact ⟨rfl, rfl⟩

/-- AdvanceTimer touches DIV, TIMA, the two accumulators and IF. -/
theorem State.advanceTimer_frame (s : State) (c : Nat) :
    s.advanceTimer c =
      { s with timer := { (s.advanceTimer c).timer with tma := s.timer.tma, tac := s.timer.tac }
               intFlag := (s.advanceTimer c).intFlag } := by
  cases h : s.timer.tac[2]
  · rw [State.advanceTimer_of_disabled h]
    rfl
  · rw [State.advanceTimer_of_enabled h, State.tickTimas_eq]
    rfl

/-! ### Additivity -/

/-- Whole periods counted in two calls, the rest of the first carried over, are those of one call. -/
theorem div_add_mod_carry {p : Nat} (hp : 0 < p) (a d : Nat) : a / p + (a % p + d) / p = (a + d) / p := by
  rw [Nat.add_comm, ← Nat.add_mul_div_left _ _ hp, Nat.add_right_comm, Nat.mod_add_div]

theorem divCount_add (v : Byte) (a c d : Nat) :
    v + BitVec.ofNat 8 ((a + c) / 256) + BitVec.ofNat 8 (((a + c) % 256 + d) / 256) =
      v + BitVec.ofNat 8 ((a + (c + d)) / 256) := by
  rw [BitVec.add_assoc, ← BitVec.ofNat_add, div_add_mod_carry (by decide), Nat.add_assoc]

theorem State.advanceTimer_add (s : State) (c d : Nat) : (s.advanceTimer c).advanceTimer d = s.advanceTimer (c + d) := by
  have ht : (s.advanceTimer c).timer.tac = s.timer.tac := s.advanceTimer_timer_tac c
  cases h : s.timer.tac[2]
  · rw [State.advanceTimer_of_disabled (ht ▸ h), State.advanceTimer_of_disabled h, State.advanceTimer_of_disabled h]
    simp [divCount_add, Nat.add_assoc]
  · have hp := timerPeriod_pos s.timer.tac
    rw [State.advanceTimer_of_enabled (ht ▸ h), State.advanceTimer_of_enabled h, State.advanceTimer_of_enabled h]
    simp [State.tickTimas_add, div_add_mod_carry hp, divCount_add, Nat.add_assoc]

/-! ### One period -/

theorem timerPeriod_eq (tac : Byte) : [1024, 16, 64, 256].getD (tac &&& 3).toNat 0 = timerPeriod tac := by
  have hlow : (tac &&& 3).toNat = tac.toNat % 4 := by
    rw [BitVec.toNat_and]
    exact Nat.and_two_pow_sub_one_eq_mod tac.toNat 2
  have hlt : tac.toNat % 4 < 4 := Nat.mod_lt _ (by decide)
  rw [hlow, timerPeriod]
  generalize tac.toNat % 4 = k at hlt
  interval_cases k <;> rfl

/-- Before the period is full, the cycles go to the accumulator. -/
theorem State.advanceTimer_of_lt {s : State} {c : Nat} (h : s.timer.tac[2] = true)
    (hlt : s.timer.timaAcc + c < timerPeriod s.timer.tac) :
    (s.advanceTimer c).timer.tima = s.timer.tima ∧ (s.advanceTimer c).timer.timaAcc = s.timer.timaAcc + c ∧
      (s.advanceTimer c).intFlag = s.intFlag := by
  rw [State.advanceTimer_of_enabled h, Nat.div_eq_of_lt hlt, Nat.mod_eq_of_lt hlt]
  exact ⟨rfl, rfl, rfl⟩

/-- A full period is one increment of TIMA, and the rest of the cycles advance the timer from there. -/
theorem State.advanceTimer_of_ge {s u : State} {c : Nat} (h : s.timer.tac[2] = true)
    (hge : timerPeriod s.timer.tac ≤ s.timer.timaAcc + c)
    (hu : u = s.tickTima.setTimerCounts s.timer.div s.timer.divAcc (s.timer.timaAcc + c - timerPeriod s.timer.tac)) :
    s.advanceTimer c =
      { u.advanceTimer 0 with
        timer.div := (s.advanceTimer c).timer.div, timer.divAcc := (s.advanceTimer c).timer.divAcc } := by
  have hturn := Nat.div_eq_sub_div (timerPeriod_pos s.timer.tac) hge
  have htac : u.timer.tac = s.timer.tac := by simp [hu]
  rw [State.advanceTimer_of_enabled (s := u) (htac ▸ h), State.advanceTimer_of_enabled h, htac, hu, hturn, Nat.mod_eq_sub_mod hge,
    State.tickTimas_setTimerCounts]
  rfl

/-- Settles O49: the frame and DIV in both cases of TAC[2], additivity by carrying the rest of a period over, and TIMA one period at
a time. -/
theorem timerAdvance : Obligations.TimerAdvance := by
  refine ⟨fun s c => ⟨s.advanceTimer_frame c, (s.advanceTimer_div c).1, (s.advanceTimer_div c).2⟩, State.advanceTimer_add,
    fun s h => ?divider, fun s c h => ?disabled, fun s c h => ?enabled, fun s htac htima htma hacc => ?overflow⟩
  case divider =>
    obtain ⟨hdiv, hacc⟩ := s.advanceTimer_div 256
    rw [Nat.add_div_right _ (by decide), Nat.div_eq_of_lt h] at hdiv
    rw [Nat.add_mod_right, Nat.mod_eq_of_lt h] at hacc
    exact ⟨hdiv, hacc⟩
  case disabled =>
    rw [State.advanceTimer_of_disabled h]
    exact ⟨rfl, rfl, rfl⟩
  case enabled =>
    intro t p
    have hp : p = timerPeriod s.timer.tac := timerPeriod_eq s.timer.tac
    refine ⟨fun hlt => State.advanceTimer_of_lt h (hp ▸ hlt), fun hge => ?_⟩
    refine State.advanceTimer_of_ge h (hp ▸ hge) ?_
    rw [State.tickTima_eq, hp]
    rfl
  case overflow =>
    rw [State.advanceTimer_of_enabled (by simp [htac]), htac, hacc]
    simp [State.tickTimas, State.tickTima, timerPeriod, htima, htma]

end Sys2Proof.Machine
end

section
/-! PROOF. The requests the devices raise (R360, R361). -/

namespace Sys2Proof.Machine

/-- `w` is `v` with some of the request bits VBlank, STAT and Timer set. -/
def DeviceRequest (v w : Byte) : Prop := ∃ k : Byte, k &&& 0xF8 = 0 ∧ w = v ||| k

theorem DeviceRequest.refl (v : Byte) : DeviceRequest v v := ⟨0, by decide, BitVec.or_zero.symm⟩

theorem DeviceRequest.trans {u v w : Byte} (h : DeviceRequest u v) (h' : DeviceRequest v w) : DeviceRequest u w := by
  obtain ⟨j, hj, rfl⟩ := h
  obtain ⟨k, hk, rfl⟩ := h'
  refine ⟨j ||| k, ?_, BitVec.or_assoc _ _ _⟩
  rw [BitVec.and_comm, BitVec.and_or_distrib_left, BitVec.and_comm, hj, BitVec.and_comm, hk]
  rfl

/-- A request that is raised when a condition holds. -/
theorem DeviceRequest.ite (c : Prop) [Decidable c] (v : Byte) {k : Byte} (hk : k &&& 0xF8 = 0) :
    DeviceRequest v (if c then v ||| k else v) := by
  split
  · exact ⟨k, hk, rfl⟩
  · exact .refl v

/-- No bit is cleared, and none of bits 7 to 3 is set. -/
theorem DeviceRequest.bits {v w : Byte} (h : DeviceRequest v w) : w &&& v = v ∧ w &&& 0xF8 = v &&& 0xF8 := by
  obtain ⟨k, hk, rfl⟩ := h
  refine ⟨?_, ?_⟩
  · ext i hi
    rw [BitVec.getElem_and, BitVec.getElem_or]
    cases v[i] <;> simp
  · rw [BitVec.and_comm, BitVec.and_or_distrib_left, BitVec.and_comm _ k, hk, BitVec.and_comm]
    exact BitVec.or_zero

/-! ### The timer -/

theorem State.tickTima_requests (s : State) : DeviceRequest s.intFlag s.tickTima.intFlag := by
  rw [State.tickTima_eq]
  exact .ite _ _ (by decide)

theorem State.tickTimas_requests (n : Nat) (s : State) : DeviceRequest s.intFlag (State.tickTimas n s).intFlag := by
  induction n generalizing s with
  | zero => exact .refl _
  | succ n ih => exact s.tickTima_requests.trans (ih s.tickTima)

theorem State.advanceTimer_requests (s : State) (c : Nat) : DeviceRequest s.intFlag (s.advanceTimer c).intFlag := by
  cases h : s.timer.tac[2]
  · rw [State.advanceTimer_of_disabled h]
    exact .refl _
  · rw [State.advanceTimer_of_enabled h]
    exact s.tickTimas_requests _

/-! ### The pixel pipeline -/

theorem State.setMode_requests (s : State) (m : PpuMode) : DeviceRequest s.intFlag (s.setMode m).intFlag :=
  .ite _ _ (by decide)

theorem State.setLy_requests (s : State) (n : Byte) : DeviceRequest s.intFlag (s.setLy n).intFlag :=
  .ite _ _ (by decide)

/-- Leaving a mode raises the requests of the new mode and line, and VBlank on line 144 (R410 to R412). -/
theorem State.leaveMode_requests (s : State) : DeviceRequest s.intFlag s.leaveMode.intFlag := by
  unfold State.leaveMode
  cases s.ppu.mode with
  | oamScan => exact s.setMode_requests _
  | drawing => exact (s.renderLine s.ppu.ly.toNat).setMode_requests _
  | hblank =>
    have hmode m := (s.setLy_requests (s.ppu.ly + 1)).trans ((s.setLy (s.ppu.ly + 1)).setMode_requests m)
    simp only
    split
    · exact (hmode _).trans ⟨0x01, by decide, rfl⟩
    · exact hmode _
  | vblank =>
    simp only
    split
    · exact (s.setLy_requests 0).trans ((s.setLy 0).setMode_requests _)
    · exact s.setLy_requests _

theorem State.ppuLoop_requests (n : Nat) (s : State) : DeviceRequest s.intFlag (State.ppuLoop n s).intFlag := by
  induction n generalizing s with
  | zero => exact .refl _
  | succ n ih =>
    rw [State.ppuLoop]
    split
    · exact .refl _
    · exact (State.leaveMode_requests { s with ppu.clock := s.ppu.clock - modeCycles s.ppu.mode }).trans (ih _)

theorem State.advancePpu_requests (s : State) (c : Nat) : DeviceRequest s.intFlag (s.advancePpu c).intFlag := by
  unfold State.advancePpu
  split
  · exact .refl _
  · have h := State.ppuLoop_requests
    simp only
    cases s.ppu.off
    · exact h _ _
    · exact h _ _

/-- Settles O52: each part of the two advances raises requests of VBlank, STAT and Timer alone, and these compose. -/
theorem deviceRequests : Obligations.DeviceRequests := fun s c =>
  ((s.advanceTimer_requests c).trans ((s.advanceTimer c).advancePpu_requests c)).bits

end Sys2Proof.Machine
end

section
/-! PROOF. The pixel pipeline, one transition at a time (R410 to R413). -/

namespace Sys2Proof.Machine

/-! ### AdvancePPU by its cases -/

theorem State.advancePpu_of_disabled {s : State} (h : s.ppu.lcdc[7] = false) (c : Nat) : s.advancePpu c = s.displayOff := if_pos h

/-- A display that was off starts again at the top of the frame (R413). -/
theorem State.advancePpu_of_off {s : State} (h : s.ppu.lcdc[7] = true) (h' : s.ppu.off = true) (c : Nat) :
    s.advancePpu c = s.displayOn.advancePpu c := by
  rw [State.advancePpu_on (s := s.displayOn) h rfl, State.advancePpu, if_neg (by simp [h])]
  simp only [h', if_true]
  rfl

/-- Below the mode's budget only the clock moves. -/
theorem State.advancePpu_of_lt {s : State} {c : Nat} (h : s.ppu.lcdc[7] = true) (h' : s.ppu.off = false)
    (hc : s.ppu.clock + c < modeCycles s.ppu.mode) : s.advancePpu c = { s with ppu.clock := s.ppu.clock + c } := by
  rw [State.advancePpu_on h h', State.runPpu_turn]
  exact if_pos hc

/-- With no cycles to add, AdvancePPU is its loop. -/
theorem State.advancePpu_zero {s : State} (h : s.ppu.lcdc[7] = true) (h' : s.ppu.off = false) : s.advancePpu 0 = s.runPpu :=
  State.advancePpu_on h h' 0

/-- One transition: the budget is taken off, the mode is left, and the rest of the clock goes on from there. -/
theorem State.advancePpu_of_ge {s : State} {c : Nat} (h : s.ppu.lcdc[7] = true) (h' : s.ppu.off = false)
    (hc : modeCycles s.ppu.mode ≤ s.ppu.clock + c) :
    s.advancePpu c =
      ({ s with ppu.clock := s.ppu.clock + c - modeCycles s.ppu.mode } : State).leaveMode.advancePpu 0 := by
  rw [State.advancePpu_zero (by simpa using h) (by simpa using h'), State.advancePpu_on h h', State.runPpu_turn]
  exact if_neg (by simpa using hc)

/-! ### Leaving a mode -/

theorem State.setMode_drawing (s : State) : s.setMode .drawing = { s with ppu.mode := .drawing } := rfl

theorem State.leaveMode_of_oamScan {s : State} (h : s.ppu.mode = .oamScan) : s.leaveMode = { s with ppu.mode := .drawing } := by
  rw [State.leaveMode, h]
  rfl

theorem State.leaveMode_of_drawing {s : State} (h : s.ppu.mode = .drawing) :
    s.leaveMode = (s.renderLine s.ppu.ly.toNat).setMode .hblank := by
  rw [State.leaveMode, h]

theorem State.leaveMode_of_hblank {s : State} (h : s.ppu.mode = .hblank) (hly : s.ppu.ly + 1 ≠ 144) :
    s.leaveMode = (s.setLy (s.ppu.ly + 1)).setMode .oamScan := by
  rw [State.leaveMode, h]
  exact if_neg hly

theorem State.leaveMode_of_hblank_last {s : State} (h : s.ppu.mode = .hblank) (hly : s.ppu.ly + 1 = 144) :
    s.leaveMode =
      { (s.setLy 144).setMode .vblank with intFlag := ((s.setLy 144).setMode .vblank).intFlag ||| 0x01 } := by
  rw [State.leaveMode, h, hly]
  exact if_pos rfl

theorem State.leaveMode_of_vblank {s : State} (h : s.ppu.mode = .vblank) (hly : s.ppu.ly ≠ 153) :
    s.leaveMode = s.setLy (s.ppu.ly + 1) := by
  rw [State.leaveMode, h]
  exact if_neg hly

theorem State.leaveMode_of_vblank_last {s : State} (h : s.ppu.mode = .vblank) (hly : s.ppu.ly = 153) :
    s.leaveMode = (s.setLy 0).setMode .oamScan := by
  rw [State.leaveMode, h]
  exact if_pos hly

/-! ### The sources of the STAT interrupt, as a read of STAT shows them -/

theorem State.readByte_stat_bit (s : State) {k : Nat} (hk : k < 5) :
    (s.readByte 0xFF41).getLsbD (k + 3) = s.ppu.stat[k] := by
  rw [State.readByte_stat, Ppu.statByte_bits _ _ hk, BitVec.getLsbD_eq_getElem hk]

/-- SetMode with its source in STAT (R411). -/
theorem State.setMode_eq (s : State) {m : PpuMode} {bit : Nat}
    (h : (m, bit) ∈ [(PpuMode.hblank, 3), (.vblank, 4), (.oamScan, 5)]) :
    s.setMode m =
      { s with ppu.mode := m,
               intFlag := if (s.readByte 0xFF41).getLsbD bit = true then s.intFlag ||| 0x02 else s.intFlag } := by
  have h0 := s.readByte_stat_bit (k := 0) (by decide)
  have h1 := s.readByte_stat_bit (k := 1) (by decide)
  have h2 := s.readByte_stat_bit (k := 2) (by decide)
  simp only [List.mem_cons, Prod.mk.injEq, List.not_mem_nil, or_false] at h
  obtain ⟨rfl, rfl⟩ | ⟨rfl, rfl⟩ | ⟨rfl, rfl⟩ := h
  · rw [h0]; rfl
  · rw [h1]; rfl
  · rw [h2]; rfl

/-- SetLY with the coincidence source in STAT (R412). -/
theorem State.setLy_eq (s : State) (n : Byte) :
    s.setLy n =
      { s with ppu.ly := n, ppu.lycEq := decide (n = s.ppu.lyc),
               intFlag :=
                 if n = s.ppu.lyc ∧ (s.readByte 0xFF41).getLsbD 6 = true then s.intFlag ||| 0x02 else s.intFlag } := by
  have h3 := s.readByte_stat_bit (k := 3) (by decide)
  rw [h3]
  simp [State.setLy, BEq.beq]

/-- Settles O50: the cases of AdvancePPU, and at a transition those of leaving a mode. -/
theorem ppuTransitions : Obligations.PpuTransitions := by
  refine ⟨fun s c h => State.advancePpu_of_disabled h c, fun s c h h' => State.advancePpu_of_off h h' c,
    fun s c h h' => ⟨fun hlt => State.advancePpu_of_lt h h' hlt, fun hge => ?_⟩,
    fun s => ⟨s.setMode_drawing, fun m bit => s.setMode_eq, s.setLy_eq⟩⟩
  rw [State.advancePpu_of_ge h h' hge]
  exact ⟨fun hm => congrArg (State.advancePpu · 0) (State.leaveMode_of_oamScan hm),
    fun hm => congrArg (State.advancePpu · 0) (State.leaveMode_of_drawing hm),
    fun hm hly => congrArg (State.advancePpu · 0) (State.leaveMode_of_hblank hm hly),
    fun hm hly => congrArg (State.advancePpu · 0) (State.leaveMode_of_hblank_last hm hly),
    fun hm hly => congrArg (State.advancePpu · 0) (State.leaveMode_of_vblank hm hly),
    fun hm hly => congrArg (State.advancePpu · 0) (State.leaveMode_of_vblank_last hm hly)⟩

end Sys2Proof.Machine
end

section
/-! PROOF. The frame of the pixel pipeline (R410, R414). -/

namespace Sys2Proof.Machine

/-! ### Additivity -/

/-- With LCDC[7] = 1 the display is on after any advance (R410, R413). -/
theorem State.advancePpu_off {s : State} (h : s.ppu.lcdc[7] = true) (c : Nat) : (s.advancePpu c).ppu.off = false := by
  cases h' : s.ppu.off with
  | true =>
    rw [State.advancePpu_of_off h h', State.advancePpu_on (s := s.displayOn) h rfl]
    exact (State.runPpu_off_lcdc _).1
  | false =>
    rw [State.advancePpu_on h h']
    exact (State.runPpu_off_lcdc _).1.trans h'

theorem State.advancePpu_add_of_on {s : State} (h : s.ppu.lcdc[7] = true) (h' : s.ppu.off = false) (c d : Nat) :
    (s.advancePpu c).advancePpu d = s.advancePpu (c + d) := by
  rw [State.advancePpu_on (by simpa using h) (State.advancePpu_off h c), State.advancePpu_on h h', State.advancePpu_on h h',
    ← State.runPpu_add]
  simp only [Nat.add_assoc]

theorem State.advancePpu_add {s : State} (h : s.ppu.lcdc[7] = true) (c d : Nat) :
    (s.advancePpu c).advancePpu d = s.advancePpu (c + d) := by
  cases h' : s.ppu.off with
  | true => rw [State.advancePpu_of_off h h', State.advancePpu_of_off h h', State.advancePpu_add_of_on (s := s.displayOn) h rfl]
  | false => exact State.advancePpu_add_of_on h h' c d

theorem Ppu.Ok.clock_lt_budget {p : Ppu} (h : p.Ok) : p.clock < modeCycles p.mode := h.1

/-- A sound pipeline does not move when no cycles pass. -/
theorem State.advancePpu_zero_of_ok {s : State} (hs : s.ppu.Ok) (h : s.ppu.lcdc[7] = true) (h' : s.ppu.off = false) :
    s.advancePpu 0 = s := State.advancePpu_of_lt h h' hs.clock_lt_budget

/-- Calls one after the other are one call with their sum. -/
theorem State.foldl_advancePpu {s : State} (hs : s.ppu.Ok) (h : s.ppu.lcdc[7] = true) (h' : s.ppu.off = false)
    (calls : List Nat) : calls.foldl State.advancePpu s = s.advancePpu calls.sum := by
  induction calls generalizing s with
  | nil => exact (State.advancePpu_zero_of_ok hs h h').symm
  | cons c calls ih =>
    rw [List.foldl_cons, ih (State.advancePpu_ok hs c) (by simpa using h) (State.advancePpu_off h c), State.advancePpu_add h,
      List.sum_cons]

/-! ### The position in the frame -/

/-- Vertical blank has lines 144 to 153, every other mode lines 0 to 143 (R410). -/
def Ppu.LinesOk (p : Ppu) : Prop :=
  if p.mode = .vblank then 144 ≤ p.ly.toNat ∧ p.ly.toNat ≤ 153 else p.ly.toNat < 144

theorem Ppu.Ok.linesOk {p : Ppu} (h : p.Ok) : p.LinesOk := h.2.1

theorem Ppu.LinesOk.ly_le {p : Ppu} (h : p.LinesOk) : p.ly.toNat ≤ 153 := by
  unfold Ppu.LinesOk at h
  split at h <;> omega

/-- Where in its line a mode begins. -/
def modeStart : PpuMode → Nat
  | .oamScan => 0
  | .drawing => 80
  | .hblank => 252
  | .vblank => 0

theorem Ppu.position_eq (p : Ppu) : p.position = 456 * p.ly.toNat + modeStart p.mode + p.clock := rfl

theorem toNat_add_one {v : Byte} (h : v.toNat < 255) : (v + 1).toNat = v.toNat + 1 := by
  rw [BitVec.toNat_add]
  exact Nat.mod_eq_of_lt (Nat.add_lt_add_right h 1)

/-- The mode that follows begins where the current one ends, or at the top of the frame. -/
theorem State.leaveMode_start {s : State} (h : s.ppu.LinesOk) :
    (456 * s.leaveMode.ppu.ly.toNat + modeStart s.leaveMode.ppu.mode) % 70224 =
      (456 * s.ppu.ly.toNat + modeStart s.ppu.mode + modeCycles s.ppu.mode) % 70224 := by
  unfold Ppu.LinesOk at h
  cases hm : s.ppu.mode <;> simp only [hm, if_true, reduceCtorEq, if_false] at h
  case oamScan => rw [State.leaveMode_of_oamScan hm]; rfl
  case drawing => rw [State.leaveMode_of_drawing hm]; rfl
  case hblank =>
    have hnext := toNat_add_one (v := s.ppu.ly) (by omega)
    by_cases hly : s.ppu.ly + 1 = 144
    · have h143 : s.ppu.ly.toNat = 143 := Nat.succ.inj (hnext.symm.trans (congrArg BitVec.toNat hly))
      rw [State.leaveMode_of_hblank_last hm hly, h143]
      change (456 * (144 : Byte).toNat + modeStart .vblank) % 70224 = _
      decide
    · rw [State.leaveMode_of_hblank hm hly, State.setMode_ppu_mode, State.setMode_ppu_ly, State.setLy_ppu_ly, hnext]
      simp only [modeStart, modeCycles]
      omega
  case vblank =>
    by_cases hly : s.ppu.ly = 153
    · rw [State.leaveMode_of_vblank_last hm hly, State.setMode_ppu_mode, State.setMode_ppu_ly, State.setLy_ppu_ly, hly]
      decide
    · have hne : s.ppu.ly.toNat ≠ 153 := fun e => hly (BitVec.eq_of_toNat_eq e)
      rw [State.leaveMode_of_vblank hm hly, State.setLy_ppu_mode, State.setLy_ppu_ly, hm, toNat_add_one (by omega)]
      simp only [modeStart, modeCycles]
      omega

/-- A transition keeps the position, up to whole frames: the budget taken off the clock is the length of the mode that ends. -/
theorem State.transition_position {s : State} (h : s.ppu.LinesOk) (hc : modeCycles s.ppu.mode ≤ s.ppu.clock) :
    let t := ({ s with ppu.clock := s.ppu.clock - modeCycles s.ppu.mode } : State).leaveMode
    t.ppu.LinesOk ∧ t.ppu.position % 70224 = s.ppu.position % 70224 := by
  have hlines : s.leaveMode.ppu.LinesOk := State.leaveMode_lines h
  have hstart := State.leaveMode_start h
  rw [State.leaveMode_with]
  refine ⟨hlines, ?_⟩
  rw [Ppu.position_eq, Ppu.position_eq]
  simp only
  omega

/-- The loop of AdvancePPU does not move the position, up to whole frames. -/
theorem State.ppuLoop_position (n : Nat) {s : State} (h : s.ppu.LinesOk) :
    (State.ppuLoop n s).ppu.position % 70224 = s.ppu.position % 70224 := by
  induction n generalizing s with
  | zero => rfl
  | succ n ih =>
    rw [State.ppuLoop]
    split
    · rfl
    · rename_i hge
      obtain ⟨hlines, hpos⟩ := State.transition_position h (Nat.le_of_not_lt hge)
      exact (ih hlines).trans hpos

/-- A sound pipeline is inside its mode's part of a line. -/
theorem Ppu.Ok.clock_lt {p : Ppu} (h : p.Ok) : modeStart p.mode + p.clock < 456 := by
  have hclock := h.clock_lt_budget
  cases hm : p.mode <;> simp only [hm, modeStart, modeCycles] at hclock ⊢ <;> omega

theorem Ppu.Ok.position_lt {p : Ppu} (h : p.Ok) : p.position < 70224 := by
  have hclock := h.clock_lt
  have hly := h.linesOk.ly_le
  rw [Ppu.position_eq]
  omega

/-- The mode at an offset into a line of the frame (R410, R414). -/
def modeAt (ly offset : Nat) : PpuMode :=
  if 144 ≤ ly then .vblank else if offset < 80 then .oamScan else if offset < 252 then .drawing else .hblank

theorem Ppu.Ok.mode_eq {p : Ppu} (h : p.Ok) : p.mode = modeAt p.ly.toNat (modeStart p.mode + p.clock) := by
  have hclock := h.clock_lt_budget
  have hlines := h.linesOk
  unfold Ppu.LinesOk at hlines
  cases hm : p.mode <;> simp only [hm, modeStart, modeCycles, if_true, reduceCtorEq, if_false] at hclock hlines ⊢
  case oamScan => rw [modeAt, if_neg (by omega), if_pos (by omega)]
  case drawing => rw [modeAt, if_neg (by omega), if_neg (by omega), if_pos (by omega)]
  case hblank => rw [modeAt, if_neg (by omega), if_neg (by omega), if_neg (by omega)]
  case vblank => rw [modeAt, if_pos hlines.1]

/-- The position tells mode, LY and clock of a sound pipeline: it is the line and the offset into it. -/
theorem Ppu.Ok.eq_of_position {p q : Ppu} (hp : p.Ok) (hq : q.Ok) (h : p.position = q.position) :
    p.mode = q.mode ∧ p.ly = q.ly ∧ p.clock = q.clock := by
  have hpc := hp.clock_lt
  have hqc := hq.clock_lt
  rw [Ppu.position_eq, Ppu.position_eq] at h
  have hly : p.ly.toNat = q.ly.toNat := by omega
  have hoffset : modeStart p.mode + p.clock = modeStart q.mode + q.clock := by omega
  have hmode : p.mode = q.mode := by rw [hp.mode_eq, hq.mode_eq, hly, hoffset]
  rw [hmode] at hoffset
  exact ⟨hmode, BitVec.eq_of_toNat_eq hly, Nat.add_left_cancel hoffset⟩

theorem State.advancePpu_position {s : State} (hs : s.ppu.Ok) (h : s.ppu.lcdc[7] = true) (h' : s.ppu.off = false) (c : Nat) :
    (s.advancePpu c).ppu.position = (s.ppu.position + c) % 70224 := by
  have hadd : ({ s with ppu.clock := s.ppu.clock + c } : State).ppu.position = s.ppu.position + c := (Nat.add_assoc _ _ _).symm
  rw [← Nat.mod_eq_of_lt (State.advancePpu_ok hs c).position_lt, State.advancePpu_on h h', State.runPpu, ← hadd]
  exact State.ppuLoop_position _ hs.linesOk

/-- Settles O51: an advance moves the position by its cycles, modulo a frame, and the position tells mode, LY and clock. -/
theorem ppuFrame : Obligations.PpuFrame := by
  refine ⟨fun s c d h => State.advancePpu_add h c d, fun s c hs h h' => State.advancePpu_position hs h h' c,
    fun s calls hs h h' hsum => ?_⟩
  rw [State.foldl_advancePpu hs h h', hsum]
  refine (State.advancePpu_ok hs 70224).eq_of_position hs ?_
  rw [State.advancePpu_position hs h h', Nat.add_mod_right, Nat.mod_eq_of_lt hs.position_lt]

end Sys2Proof.Machine
end

section
/-! PROOF. Runs as the host drives them (R354, R390, R470). -/

namespace Sys2Proof.Machine

/-- The input of the coming step is no part of the invariant. -/
theorem State.withInput_inv {s : State} (h : s.Inv) (input : Byte) : (s.withInput input).Inv := h

/-- A run from a state that steps goes on from the next one. -/
theorem runWith_cons_of_next {s t : State} {input : Byte} (h : step (s.withInput input) = .next t) (inputs : List Byte) :
    runWith (input :: inputs) s = runWith inputs t := by
  rw [runWith, h]

/-- A run from a Fatal state ends at once, with the fault of R390. -/
theorem runWith_cons_of_fatal {s : State} {record : FatalRecord} (h : s.fatal = some record) (input : Byte)
    (inputs : List Byte) : runWith (input :: inputs) s = .fault (.fatalState record) := by
  rw [runWith, step_of_fatal (s := s.withInput input) h]

/-- A run that goes through has taken its first step, and the rest from there. -/
theorem runWith_cons_eq_next {input : Byte} {inputs : List Byte} {s t : State} (h : runWith (input :: inputs) s = .next t) :
    ∃ u, step (s.withInput input) = .next u ∧ runWith inputs u = .next t := by
  cases hf : s.fatal with
  | some record =>
    rw [runWith_cons_of_fatal hf] at h
    cases h
  | none =>
    obtain ⟨u, hu⟩ := stepOutcome.2 (s.withInput input) hf
    rw [runWith_cons_of_next hu] at h
    exact ⟨u, hu, h⟩

/-- Every step of a run keeps the invariant and what was loaded. -/
theorem runWith_keeps {inputs : List Byte} {s t : State} (hs : s.Inv) (h : runWith inputs s = .next t) :
    t.Inv ∧ t.loaded = s.loaded := by
  induction inputs generalizing s with
  | nil =>
    obtain rfl := Host.Outcome.next.inj h
    exact ⟨hs, rfl⟩
  | cons input inputs ih =>
    obtain ⟨u, hu, hrun⟩ := runWith_cons_eq_next h
    obtain ⟨ht, hload⟩ := ih (stepKeepsInv _ u (State.withInput_inv hs input) hu) hrun
    exact ⟨ht, hload.trans ((sameCartridge_iff (s.withInput input) u).mp (stepKeepsLoad _ u hu).1)⟩

/-- A run goes through, or stops at a Fatal record. -/
theorem runWith_outcome (inputs : List Byte) (s : State) :
    (∃ t, runWith inputs s = .next t) ∨ ∃ record, runWith inputs s = .fault (.fatalState record) := by
  induction inputs generalizing s with
  | nil => exact .inl ⟨s, rfl⟩
  | cons input inputs ih =>
    cases hf : s.fatal with
    | some record => exact .inr ⟨record, runWith_cons_of_fatal hf input inputs⟩
    | none =>
      obtain ⟨u, hu⟩ := stepOutcome.2 (s.withInput input) hf
      rw [runWith_cons_of_next hu]
      exact ih u

/-- Settles O59: by induction on the inputs, from what one step keeps and answers. -/
theorem runKeeps : Obligations.RunKeeps := by
  refine ⟨fun inputs s t hs h => ?_, runWith_outcome⟩
  obtain ⟨ht, hload⟩ := runWith_keeps hs h
  exact ⟨ht, (sameCartridge_iff s t).mpr hload⟩

end Sys2Proof.Machine
end

section
/-! PROOF. The objects of a line (R421 to R424). -/

namespace Sys2Proof.Machine

/-! ### OAM entries and the selection -/

/-- The four bytes of OAM entry k, as the CPU reads them (R424). -/
theorem State.objEntry_eq (s : State) {k : Nat} (hk : k < 40) :
    s.objEntry k =
      { y := s.readByte (BitVec.ofNat 16 (0xFE00 + 4 * k + 0)), x := s.readByte (BitVec.ofNat 16 (0xFE00 + 4 * k + 1))
        tile := s.readByte (BitVec.ofNat 16 (0xFE00 + 4 * k + 2)), flags := s.readByte (BitVec.ofNat 16 (0xFE00 + 4 * k + 3)) } := by
  have hbyte (j : Nat) (hj : j < 4) : s.readByte (BitVec.ofNat 16 (0xFE00 + 4 * k + j)) = s.oam.read (4 * k + j) := by
    rw [Nat.add_assoc, s.readByte_oamAt (by omega)]
  rw [hbyte 0 (by decide), hbyte 1 (by decide), hbyte 2 (by decide), hbyte 3 (by decide)]
  rfl

theorem State.selectObjects_of_disabled {s : State} (h : s.ppu.lcdc[1] = false) (ly : Nat) : s.selectObjects ly = [] :=
  if_neg (by simp [h])

/-- The indices of the first ten entries that cover a line, in OAM order. -/
def State.firstCovering (s : State) (ly : Nat) : List Nat :=
  ((List.range 40).filter (fun k => (s.objEntry k).covers s.objHeight ly)).take 10

theorem State.firstCovering_sorted (s : State) (ly : Nat) : (s.firstCovering ly).Pairwise (· < ·) :=
  ((List.pairwise_lt_range (n := 40)).filter _).take

theorem State.selectObjects_of_enabled {s : State} (h : s.ppu.lcdc[1] = true) (ly : Nat) :
    s.selectObjects ly = ((s.firstCovering ly).map s.objEntry).foldr insertByX [] := by
  rw [State.selectObjects, if_pos h, List.filter_map, State.firstCovering, List.map_take]
  rfl

/-- Covering a line, over the integers as R421 writes it. -/
theorem ObjEntry.covers_eq (o : ObjEntry) (h ly : Nat) :
    o.covers h ly = decide ((o.y.toNat : Int) - 16 ≤ ly ∧ (ly : Int) < (o.y.toNat : Int) - 16 + h) := by
  rw [ObjEntry.covers, ← Bool.decide_and]
  congr 1
  apply propext
  omega

theorem State.objBefore_iff (s : State) (j k : Nat) :
    s.objBefore j k ↔
      ((s.objEntry j).x.toNat : Int) - 8 < ((s.objEntry k).x.toNat : Int) - 8 ∨
        ((s.objEntry j).x.toNat : Int) - 8 = ((s.objEntry k).x.toNat : Int) - 8 ∧ j < k := by
  unfold State.objBefore
  omega

/-! ### The pixel of an object -/

theorem State.objHeight_eq (s : State) : s.objHeight = if s.ppu.lcdc[2] = true then 16 else 8 := rfl

/-- The tile of an object, without its lowest bit for tall objects (R422). -/
def State.objTile (s : State) (o : ObjEntry) : Byte := if s.ppu.lcdc[2] = true then o.tile &&& 0xFE else o.tile

/-- The row of an object's tile data on a line, mirrored by flag 6 (R422). -/
def State.objRow (s : State) (o : ObjEntry) (ly : Nat) : Nat :=
  if o.flags[6] = true then s.objHeight - 1 - (ly + 16 - o.y.toNat) else ly + 16 - o.y.toNat

theorem State.objPixel_eq (s : State) (o : ObjEntry) (ly x : Nat) :
    s.objPixel o ly x =
      colourIndex (s.vramAt (0x8000 + 16 * (s.objTile o).toNat + 2 * s.objRow o ly))
        (s.vramAt (0x8000 + 16 * (s.objTile o).toNat + 2 * s.objRow o ly + 1))
        (if o.flags[5] = true then x + 8 - o.x.toNat else 7 - (x + 8 - o.x.toNat)) := by
  have htall : s.objHeight = 16 ↔ s.ppu.lcdc[2] = true := by
    rw [State.objHeight_eq]
    split <;> simp [*]
  simp only [State.objPixel, State.objTile, State.objRow, htall]

theorem State.objRow_lt (s : State) {o : ObjEntry} {ly : Nat} (h : ly + 16 < o.y.toNat + s.objHeight)
    (h' : o.y.toNat ≤ ly + 16) : s.objRow o ly < s.objHeight := by
  unfold State.objRow
  split <;> omega

/-- The tile data of objects lies in the 0x1000 bytes from 0x8000 on. -/
theorem State.objTile_row_lt (s : State) (o : ObjEntry) {row : Nat} (h : row < s.objHeight) :
    16 * (s.objTile o).toNat + 2 * row + 1 < 0x1000 := by
  have hbyte := o.tile.isLt
  have hmask : (o.tile &&& 0xFE).toNat ≤ 0xFE := by
    rw [BitVec.toNat_and]
    exact Nat.and_le_right
  rw [State.objHeight_eq] at h
  unfold State.objTile
  split <;> simp only [*, if_true, Bool.false_eq_true, if_false] at h <;> omega

/-- The two bytes of a row of object tile data lie in VRAM. -/
theorem State.readByte_objRow (s : State) {tile row : Nat} (h : 16 * tile + 2 * row + 1 < 0x1000) :
    s.readByte (BitVec.ofNat 16 (0x8000 + 16 * tile + 2 * row)) = s.vramAt (0x8000 + 16 * tile + 2 * row) ∧
      s.readByte (BitVec.ofNat 16 (0x8000 + 16 * tile + 2 * row + 1)) = s.vramAt (0x8000 + 16 * tile + 2 * row + 1) := by
  have haddr (a : Nat) (h1 : 0x8000 ≤ a) (h2 : a ≤ 0x9FFF) : s.readByte (BitVec.ofNat 16 a) = s.vramAt a := by
    have ha : (BitVec.ofNat 16 a).toNat = a := by rw [BitVec.toNat_ofNat]; omega
    rw [s.readByte_vramAt (by omega) (by omega), ha]
  exact ⟨haddr _ (by omega) (by omega), haddr _ (by omega) (by omega)⟩

/-! ### The shade of a column -/

/-- The object shows at a column: it covers the column with an opaque pixel (R422). -/
theorem State.objOpaque_eq_true (s : State) (o : ObjEntry) (ly x : Nat) :
    s.objOpaque o ly x = true ↔ o.x.toNat ≤ x + 8 ∧ x < o.x.toNat ∧ s.objPixel o ly x ≠ 0 := by
  simp [State.objOpaque, and_assoc]

theorem State.pixelShade_of_none (s : State) {objects : List ObjEntry} {ly x : Nat}
    (h : ∀ o ∈ objects, ¬ s.objOpaque o ly x = true) : s.pixelShade objects ly x = s.bgShade ly x := by
  simp only [State.pixelShade, List.find?_eq_none.mpr h]

theorem State.pixelShade_of_first (s : State) {above below : List ObjEntry} {o : ObjEntry} {ly x : Nat}
    (h : ∀ p ∈ above, ¬ s.objOpaque p ly x = true) (ho : s.objOpaque o ly x = true) :
    s.pixelShade (above ++ o :: below) ly x =
      if o.flags[7] = true ∧ s.bgShade ly x ≠ 0 then s.bgShade ly x
      else paletteShade (if o.flags[4] = true then s.ppu.obp1 else s.ppu.obp0) (s.objPixel o ly x) := by
  have hfind : (above ++ o :: below).find? (fun p => s.objOpaque p ly x) = some o := by
    rw [List.find?_append, List.find?_eq_none.mpr h, Option.none_or]
    exact List.find?_cons_of_pos ho
  simp [State.pixelShade, hfind]

/-- Settles O60: the entries' bytes, the selection by its sorted indices, the tile row of an object's pixel, and the first opaque
object of a column. -/
theorem renderObjects : Obligations.RenderObjects := by
  refine ⟨fun s k hk => s.objEntry_eq hk, fun s ly h => State.selectObjects_of_disabled h ly, fun s ly h => ?selection,
    fun s o ly x => ?pixel, fun s objects ly x => ⟨fun h => ?background, fun above below o hobjects h ho => ?object⟩⟩
  case selection =>
    intro height top left first
    have hfirst : first = s.firstCovering ly := by
      simp only [first, State.firstCovering, ObjEntry.covers_eq, top, height, State.objHeight_eq, Nat.cast_ite]
      rfl
    obtain ⟨ks, hperm, hsorted, hmap⟩ := s.foldr_insertByX _ (s.firstCovering_sorted ly)
    exact ⟨ks, hfirst ▸ hperm, hsorted.imp (fun {j k} hjk => (s.objBefore_iff j k).mp hjk),
      (State.selectObjects_of_enabled h ly).trans hmap⟩
  case pixel =>
    intro height hy hy' hx hx' r row tile lo hi j b
    obtain ⟨hlo, hhi⟩ := s.readByte_objRow (s.objTile_row_lt o (s.objRow_lt hy' hy))
    exact (s.objPixel_eq o ly x).trans (congrArg₂ (colourIndex · · b) hlo.symm hhi.symm)
  case background => exact s.pixelShade_of_none fun o ho => mt (s.objOpaque_eq_true o ly x).mp (h o ho)
  case object =>
    rw [hobjects, s.pixelShade_of_first (fun p hp => mt (s.objOpaque_eq_true p ly x).mp (h p hp))
      ((s.objOpaque_eq_true o ly x).mpr ho), paletteShade_eq]

end Sys2Proof.Machine
end

section
/-! PROOF. The state that a load creates, value by value (R450 to R452), and the soundness of the state after reset. -/

namespace Sys2Proof.Machine

/-- The registers of a controller that a load selects are all zero (R450). -/
theorem selectController_registers {code : Byte} {c : Controller} (h : selectController code = some c) :
    c = .direct ∨ c = .mbc1 { ramEnable := false, bank1 := 0, bank2 := 0, mode := 0 } ∨
      c = .mbc3 { ramEnable := false, romBank := 0, ramBank := 0 } := by
  simp only [selectController] at h
  split_ifs at h
  · exact .inl (Option.some.inj h).symm
  · exact .inr (.inl (Option.some.inj h).symm)
  · exact .inr (.inr (Option.some.inj h).symm)

/-- Settles O54: `load_cases` gives the created state, whose fields R450 lists; its two programs are read back by
`Memory.read_ofBytes`, and its controller is one of three at zero. -/
theorem resetValues : Obligations.ResetValues := by
  intro cart boot init s h
  obtain ⟨-, controller, romBanks, ramSize, hsel, -, -, -, -, rfl⟩ := load_cases h
  have hflag : (cart.getD 0x14D 0 != 0) = decide (cart.getD 0x14D 0 ≠ 0) := by simp [bne, BEq.beq]
  refine ⟨?registers, ?control, ⟨Memory.read_ofBytes boot, Memory.read_ofBytes cart⟩, ?initMem, ?io, ?timer, ?ppu, hsel,
    ?controller⟩
  case registers => exact ⟨rfl, rfl, rfl, rfl, rfl, rfl, rfl, rfl, rfl, hflag, hflag, rfl, rfl⟩
  case control => exact ⟨rfl, rfl, rfl, rfl, rfl⟩
  case initMem => exact ⟨rfl, rfl, rfl, rfl, rfl⟩
  case io => exact ⟨Memory.read_nil, rfl, rfl, rfl, rfl, rfl, rfl, rfl⟩
  case timer => exact ⟨rfl, rfl, rfl, rfl, rfl, rfl⟩
  case ppu =>
    exact ⟨rfl, rfl, rfl, rfl, rfl, rfl, rfl, rfl, rfl, rfl, rfl, rfl, rfl, rfl, rfl, Memory.read_nil⟩
  case controller =>
    obtain rfl | rfl | rfl := selectController_registers hsel
    · trivial
    · exact ⟨rfl, rfl, rfl, rfl⟩
    · exact ⟨rfl, rfl, rfl⟩

/-- A storage of zeros is canonical and inside any size (R32). -/
theorem Memory.nil_ok (size : Nat) : Memory.Wf [] ∧ Memory.Within size [] := ⟨⟨List.Pairwise.nil, by simp⟩, by simp⟩

/-- Settles O56: `State.reset` is created by a load (`load_reset`) whose INIT_MEM is empty, so `loadInv` covers it. -/
theorem resetInv : Obligations.ResetInv :=
  loadInv _ _ _ _ load_reset (Memory.nil_ok _) (Memory.nil_ok _) (Memory.nil_ok _) (Memory.nil_ok _) (Memory.nil_ok _)

end Sys2Proof.Machine
end
